-- ==== Sys2Proof/Word.lean ====
section
/-!
DEFINITION. The word types of the machine (spec/00_scope.md R8, spec/10_state.md R30): unsigned
8-bit bytes and 16-bit words, with arithmetic modulo 2^8 and 2^16.
-/
namespace Sys2Proof

/-- An unsigned 8-bit value (`u8` of R8): A, B, DP, CC and every byte on the bus. -/
abbrev Byte := BitVec 8

/-- An unsigned 16-bit value (`u16` of R8): X, Y, U, S, PC, D and every address. -/
abbrev Word := BitVec 16

end Sys2Proof
end

