-- ==== Sys2Proof/Syntax.lean ====
section
/-!
DEFINITION. The instructions as syntax: the operand forms of spec/30_encoding.md R103 to R109 and R114,
the indexed submodes of spec/40_addressing.md R140, and one constructor of `Instr` for each mnemonic
of spec/opcode_table.json. A mnemonic with several rows has one row for each form of its operand.
-/
namespace Sys2Proof

/-- The opcode page an opcode byte is looked up in (R101): no prefix byte, 0x10, or 0x11. -/
inductive Page where
  | p0
  | p1
  | p2
  deriving DecidableEq, Repr

/-- The base registers of the indexed modes, post-byte bits 6-5 in this order (R108, R122). -/
inductive IdxReg where
  | x
  | y
  | u
  | s
  deriving DecidableEq, Repr

/-- An indexed operand (R140, R145): the submode, its register and offset, and whether the final
indirection of R142 is on where the submode allows one. -/
inductive Idx where
  /-- 5-bit signed offset from a register; no indirection. -/
  | off5 (r : IdxReg) (n : BitVec 5)
  /-- `,R+`; no indirection. -/
  | inc1 (r : IdxReg)
  /-- `,R++`. -/
  | inc2 (r : IdxReg) (ind : Bool)
  /-- `,-R`; no indirection. -/
  | dec1 (r : IdxReg)
  /-- `,--R`. -/
  | dec2 (r : IdxReg) (ind : Bool)
  /-- `,R`. -/
  | zero (r : IdxReg) (ind : Bool)
  /-- `B,R`. -/
  | accB (r : IdxReg) (ind : Bool)
  /-- `A,R`. -/
  | accA (r : IdxReg) (ind : Bool)
  /-- 8-bit signed offset from a register. -/
  | off8 (r : IdxReg) (n : Byte) (ind : Bool)
  /-- 16-bit offset from a register. -/
  | off16 (r : IdxReg) (n : Word) (ind : Bool)
  /-- `D,R`. -/
  | accD (r : IdxReg) (ind : Bool)
  /-- 8-bit signed offset from PC (R144). -/
  | pc8 (n : Byte) (ind : Bool)
  /-- 16-bit offset from PC (R144). -/
  | pc16 (n : Word) (ind : Bool)
  /-- `[n16]`, extended indirect (R143). -/
  | extInd (n : Word)
  deriving DecidableEq, Repr

/-- A memory operand (R103, R146): direct, indexed or extended. -/
inductive Ea where
  /-- Direct: the byte dd of EA = DP:dd (R105). -/
  | dir (d : Byte)
  /-- Indexed (R108). -/
  | idx (x : Idx)
  /-- Extended: the address (R106). -/
  | ext (a : Word)
  deriving DecidableEq, Repr

/-- An 8-bit source operand: immediate (R104) or in memory. -/
inductive Src8 where
  | imm (v : Byte)
  | mem (e : Ea)
  deriving DecidableEq, Repr

/-- A 16-bit source operand: immediate (R104) or in memory. -/
inductive Src16 where
  | imm (v : Word)
  | mem (e : Ea)
  deriving DecidableEq, Repr

/-- The 8-bit registers, numbered 0 to 3 in EXG/TFR (spec/45_stack_transfer.md R350). -/
inductive Reg8 where
  | a
  | b
  | cc
  | dp
  deriving DecidableEq, Repr

/-- The 16-bit registers, numbered 0 to 5 in EXG/TFR (R350). -/
inductive Reg16 where
  | d
  | x
  | y
  | u
  | s
  | pc
  deriving DecidableEq, Repr

/-- A register named by one nibble of an EXG/TFR post-byte (R109, R350). -/
inductive XReg where
  | r8 (r : Reg8)
  | r16 (r : Reg16)
  deriving DecidableEq, Repr

/-- The stack pointer a push or pull moves (spec/00_scope.md R12). -/
inductive Stk where
  | s
  | u
  deriving DecidableEq, Repr

/-- The instructions: one constructor for each mnemonic of spec/opcode_table.json, its operand at every form
that the mnemonic's rows give it. -/
inductive Instr where
  -- Loads, stores and load effective address (spec/41_load_store.md)
  /-- LDA, load accumulator A (R171). -/
  | lda (m : Src8)
  /-- LDB, load accumulator B (R172). -/
  | ldb (m : Src8)
  /-- LDD, load accumulator D (A high, B low) (R173). -/
  | ldd (m : Src16)
  /-- LDX, load index register X (R174). -/
  | ldx (m : Src16)
  /-- LDY, load index register Y (R175). -/
  | ldy (m : Src16)
  /-- LDU, load user stack pointer U (R176). -/
  | ldu (m : Src16)
  /-- LDS, load hardware stack pointer S (R177). -/
  | lds (m : Src16)
  /-- STA, store accumulator A (R178). -/
  | sta (e : Ea)
  /-- STB, store accumulator B (R179). -/
  | stb (e : Ea)
  /-- STD, store accumulator D (R180). -/
  | std (e : Ea)
  /-- STX, store index register X (R181). -/
  | stx (e : Ea)
  /-- STY, store index register Y (R182). -/
  | sty (e : Ea)
  /-- STU, store user stack pointer U (R183). -/
  | stu (e : Ea)
  /-- STS, store hardware stack pointer S (R184). -/
  | sts (e : Ea)
  /-- LEAX, load effective address into X (R185). -/
  | leax (x : Idx)
  /-- LEAY, load effective address into Y (R186). -/
  | leay (x : Idx)
  /-- LEAU, load effective address into U (R187). -/
  | leau (x : Idx)
  /-- LEAS, load effective address into S (R188). -/
  | leas (x : Idx)
  -- Arithmetic (spec/42_arithmetic.md)
  /-- CLR, clear a memory byte (R205). -/
  | clr (e : Ea)
  /-- CLRA, clear accumulator A (R206). -/
  | clra
  /-- CLRB, clear accumulator B (R207). -/
  | clrb
  /-- ADDA, add to accumulator A (R208). -/
  | adda (m : Src8)
  /-- ADDB, add to accumulator B (R209). -/
  | addb (m : Src8)
  /-- ADDD, add to accumulator D (R210). -/
  | addd (m : Src16)
  /-- ADCA, add with carry to accumulator A (R211). -/
  | adca (m : Src8)
  /-- ADCB, add with carry to accumulator B (R212). -/
  | adcb (m : Src8)
  /-- SUBA, subtract from accumulator A (R213). -/
  | suba (m : Src8)
  /-- SUBB, subtract from accumulator B (R214). -/
  | subb (m : Src8)
  /-- SUBD, subtract from accumulator D (R215). -/
  | subd (m : Src16)
  /-- CMPA, compare accumulator A (R216). -/
  | cmpa (m : Src8)
  /-- CMPB, compare accumulator B (R217). -/
  | cmpb (m : Src8)
  /-- CMPD, compare accumulator D (R218). -/
  | cmpd (m : Src16)
  /-- CMPX, compare index register X (R219). -/
  | cmpx (m : Src16)
  /-- CMPY, compare index register Y (R220). -/
  | cmpy (m : Src16)
  /-- CMPU, compare user stack pointer U (R221). -/
  | cmpu (m : Src16)
  /-- CMPS, compare hardware stack pointer S (R222). -/
  | cmps (m : Src16)
  /-- NEG, negate a memory byte (R223). -/
  | neg (e : Ea)
  /-- NEGA, negate accumulator A (R224). -/
  | nega
  /-- NEGB, negate accumulator B (R225). -/
  | negb
  /-- INC, increment a memory byte (R226). -/
  | inc (e : Ea)
  /-- INCA, increment accumulator A (R227). -/
  | inca
  /-- INCB, increment accumulator B (R228). -/
  | incb
  /-- DEC, decrement a memory byte (R229). -/
  | dec (e : Ea)
  /-- DECA, decrement accumulator A (R230). -/
  | deca
  /-- DECB, decrement accumulator B (R231). -/
  | decb
  -- Shifts, complement, logic, CC logic and test (spec/43_shift_logic.md)
  /-- ASR, arithmetic shift right of a memory byte (R250). -/
  | asr (e : Ea)
  /-- ASRA, arithmetic shift right of A (R251). -/
  | asra
  /-- ASRB, arithmetic shift right of B (R252). -/
  | asrb
  /-- LSR, logical shift right of a memory byte (R253). -/
  | lsr (e : Ea)
  /-- LSRA, logical shift right of A (R254). -/
  | lsra
  /-- LSRB, logical shift right of B (R255). -/
  | lsrb
  /-- ASL, arithmetic shift left of a memory byte (R256). -/
  | asl (e : Ea)
  /-- ASLA, arithmetic shift left of A (R257). -/
  | asla
  /-- ASLB, arithmetic shift left of B (R258). -/
  | aslb
  /-- COM, complement a memory byte (R259). -/
  | com (e : Ea)
  /-- COMA, complement A (R260). -/
  | coma
  /-- COMB, complement B (R261). -/
  | comb
  /-- ORA, inclusive OR into A (R262). -/
  | ora (m : Src8)
  /-- ORB, inclusive OR into B (R263). -/
  | orb (m : Src8)
  /-- ANDA, logical AND into A (R264). -/
  | anda (m : Src8)
  /-- ANDB, logical AND into B (R265). -/
  | andb (m : Src8)
  /-- BITA, bit test of A (R266). -/
  | bita (m : Src8)
  /-- BITB, bit test of B (R267). -/
  | bitb (m : Src8)
  /-- ORCC, inclusive OR into CC (R268). -/
  | orcc (m : Byte)
  /-- ANDCC, logical AND into CC (R269). -/
  | andcc (m : Byte)
  /-- TST, test a memory byte (R270). -/
  | tst (e : Ea)
  /-- TSTA, test A (R271). -/
  | tsta
  /-- TSTB, test B (R272). -/
  | tstb
  -- Control transfer (spec/44_control.md)
  /-- JMP, jump (R300). -/
  | jmp (e : Ea)
  /-- JSR, jump to subroutine (R301). -/
  | jsr (e : Ea)
  /-- BSR, branch to subroutine, short form (R302). -/
  | bsr (off : Byte)
  /-- LBSR, long branch to subroutine (R303). -/
  | lbsr (off : Word)
  /-- RTS, return from subroutine (R304). -/
  | rts
  /-- NOP, no operation (R305). -/
  | nop
  /-- BRA, branch always, short form (R309). -/
  | bra (off : Byte)
  /-- BRN, branch never, short form (R310). -/
  | brn (off : Byte)
  /-- BHI, branch if higher, unsigned, short form (R311). -/
  | bhi (off : Byte)
  /-- BLS, branch if lower or same, unsigned, short form (R312). -/
  | bls (off : Byte)
  /-- BCC, (alias BHS) branch if carry clear (higher or same, unsigned), short form (R313). -/
  | bcc (off : Byte)
  /-- BCS, (alias BLO) branch if carry set (lower, unsigned), short form (R314). -/
  | bcs (off : Byte)
  /-- BNE, branch if not equal, short form (R315). -/
  | bne (off : Byte)
  /-- BEQ, branch if equal, short form (R316). -/
  | beq (off : Byte)
  /-- BVC, branch if overflow clear, short form (R317). -/
  | bvc (off : Byte)
  /-- BVS, branch if overflow set, short form (R318). -/
  | bvs (off : Byte)
  /-- BPL, branch if plus, short form (R319). -/
  | bpl (off : Byte)
  /-- BMI, branch if minus, short form (R320). -/
  | bmi (off : Byte)
  /-- BGE, branch if greater or equal, signed, short form (R321). -/
  | bge (off : Byte)
  /-- BLT, branch if less than, signed, short form (R322). -/
  | blt (off : Byte)
  /-- BGT, branch if greater than, signed, short form (R323). -/
  | bgt (off : Byte)
  /-- BLE, branch if less or equal, signed, short form (R324). -/
  | ble (off : Byte)
  /-- LBRA, long branch always (R325). -/
  | lbra (off : Word)
  /-- LBRN, long branch never (R326). -/
  | lbrn (off : Word)
  /-- LBHI, long branch if higher, unsigned (R327). -/
  | lbhi (off : Word)
  /-- LBLS, long branch if lower or same, unsigned (R328). -/
  | lbls (off : Word)
  /-- LBCC, (alias LBHS) long branch if carry clear (higher or same, unsigned) (R329). -/
  | lbcc (off : Word)
  /-- LBCS, (alias LBLO) long branch if carry set (lower, unsigned) (R330). -/
  | lbcs (off : Word)
  /-- LBNE, long branch if not equal (R331). -/
  | lbne (off : Word)
  /-- LBEQ, long branch if equal (R332). -/
  | lbeq (off : Word)
  /-- LBVC, long branch if overflow clear (R333). -/
  | lbvc (off : Word)
  /-- LBVS, long branch if overflow set (R334). -/
  | lbvs (off : Word)
  /-- LBPL, long branch if plus (R335). -/
  | lbpl (off : Word)
  /-- LBMI, long branch if minus (R336). -/
  | lbmi (off : Word)
  /-- LBGE, long branch if greater or equal, signed (R337). -/
  | lbge (off : Word)
  /-- LBLT, long branch if less than, signed (R338). -/
  | lblt (off : Word)
  /-- LBGT, long branch if greater than, signed (R339). -/
  | lbgt (off : Word)
  /-- LBLE, long branch if less or equal, signed (R340). -/
  | lble (off : Word)
  -- Stack and register transfer (spec/45_stack_transfer.md)
  /-- PSHS, push registers on the hardware stack S (R346). -/
  | pshs (m : Byte)
  /-- PULS, pull registers from the hardware stack S (R347). -/
  | puls (m : Byte)
  /-- PSHU, push registers on the user stack U (R348). -/
  | pshu (m : Byte)
  /-- PULU, pull registers from the user stack U (R349). -/
  | pulu (m : Byte)
  /-- EXG, exchange registers (R351). -/
  | exg (r1 r2 : XReg)
  /-- TFR, transfer register (R352). -/
  | tfr (r1 r2 : XReg)
  -- The extension set (spec/46_extension.md)
  /-- EORA, exclusive OR into A (R371). -/
  | eora (m : Src8)
  /-- EORB, exclusive OR into B (R372). -/
  | eorb (m : Src8)
  /-- SBCA, subtract with borrow from A (R373). -/
  | sbca (m : Src8)
  /-- SBCB, subtract with borrow from B (R374). -/
  | sbcb (m : Src8)
  /-- ROL, rotate a memory byte left through C (R375). -/
  | rol (e : Ea)
  /-- ROLA, rotate A left through C (R376). -/
  | rola
  /-- ROLB, rotate B left through C (R377). -/
  | rolb
  /-- ROR, rotate a memory byte right through C (R378). -/
  | ror (e : Ea)
  /-- RORA, rotate A right through C (R379). -/
  | rora
  /-- RORB, rotate B right through C (R380). -/
  | rorb
  /-- MUL, unsigned multiply A by B into D (R381). -/
  | mul
  /-- SEX, sign-extend B into D (R382). -/
  | sex
  /-- ABX, add B to X, unsigned (R383). -/
  | abx
  /-- DAA, decimal adjust A (R384). -/
  | daa
  /-- SWI, software interrupt (R386). -/
  | swi
  /-- SWI2, software interrupt 2 (R387). -/
  | swi2
  /-- SWI3, software interrupt 3 (R388). -/
  | swi3
  /-- RTI, return from interrupt (R389). -/
  | rti
  /-- CWAI, clear CC bits and wait for interrupt (R390). -/
  | cwai (m : Byte)
  /-- SYNC, synchronise to an interrupt line (R391). -/
  | sync
  deriving DecidableEq, Repr

end Sys2Proof
end

