-- ==== Sys2Proof/Config.lean ====
section
/-!
DEFINITION. The parameters of the hardware (spec/00_scope.md R6) as one plain record, with the values
the spec fixes for this hardware, and the free values the spec leaves open (spec/92_eei_decisions.md
D26, D30; spec/93_implementation_defined.md I12, I14) as constants without a body.
-/
namespace Sys2Proof

/-- `BUS_CONFIG` (R6, D14, D43): the Vectrex memory map, or the flat 64 KiB RAM of the source's CPU scenarios. -/
inductive BusConfig where
  /-- The memory map of spec/20_memory.md R63. -/
  | vectrex
  /-- One 65536-byte RAM and no devices (R69). -/
  | flatTest
  deriving DecidableEq, Repr

/-- `INTERRUPT_MODEL` (R6, D2). -/
inductive InterruptModel where
  /-- An unmasked IRQ at a poll is a fatal fault (R430, R481). -/
  | fault
  /-- An unmasked IRQ is taken by the MC6809 entry (R433). -/
  | mc6809
  deriving DecidableEq, Repr

/-- `INC_V_RULE` (R6, D3, spec/90_conflicts.md C1). -/
inductive IncVRule where
  /-- V = (result == 0). -/
  | document
  /-- V = (operand == 0x7F). -/
  | mc6809
  deriving DecidableEq, Repr

/-- `PUSH_PULL_CYCLES` (R6, D12, spec/90_conflicts.md C5). -/
inductive PushPullCycles where
  /-- One cycle for each register moved. -/
  | perRegister
  /-- One cycle for each byte moved. -/
  | perByte
  deriving DecidableEq, Repr

/-- `VIA_FLAG_WRITES` (R6, D18, R451, R486): what a write of VIA register 13 or 14 does. -/
inductive ViaFlagWrites where
  /-- The write is discarded. -/
  | ignore
  /-- A write that would change IFR or IER is a fatal fault. -/
  | strict
  /-- The 6522's write semantics. -/
  | mc6522
  deriving DecidableEq, Repr

/-- A count of `BASE_CYCLES` (R6, D10, I16) that differs from the one spec/30_encoding.md R118 prints for the row. -/
structure CycleEntry where
  page : Page
  opcode : Byte
  cycles : Nat
  deriving DecidableEq, Repr

/-- The implementation parameters of R6. The images are memory, `BUTTONS` is a field of State, and the two pin
inputs are the free values below. -/
structure Config where
  /-- `EXTENDED_SET` (D1): whether the extension set of spec/46_extension.md executes. -/
  extendedSet : Bool
  /-- `INTERRUPT_MODEL` (D2). -/
  interruptModel : InterruptModel
  /-- `INC_V_RULE` (D3). -/
  incVRule : IncVRule
  /-- `BASE_CYCLES` (D10): the table (page, opcode) to cycles, as the entries that replace counts of R118's
  table. `Sys2Proof.Machine.baseCycles` reads it. -/
  baseCycles : List CycleEntry
  /-- `BRANCH_TAKEN_EXTRA` (D11): cycles a taken branch adds. -/
  branchTakenExtra : Nat
  /-- `PUSH_PULL_CYCLES` (D12). -/
  pushPullCycles : PushPullCycles
  /-- `BUS_CONFIG` (D14). -/
  bus : BusConfig
  /-- `UNMAPPED_READ_VALUE` (D15). -/
  unmappedReadValue : Byte
  /-- `VIA_FLAG_WRITES` (D18). -/
  viaFlagWrites : ViaFlagWrites
  /-- `K_INT` (D24, D48): the integrator gain, an exact rational. -/
  kInt : Rat
  /-- `CPU_HZ` (D32): cycles in a second of host time. -/
  cpuHz : Nat
  deriving DecidableEq, Repr

/-- The value R6 fixes for this hardware, parameter by parameter. -/
def Config.hardware : Config where
  extendedSet := false
  interruptModel := .fault
  incVRule := .document
  baseCycles := []
  branchTakenExtra := 1
  pushPullCycles := .perRegister
  bus := .vectrex
  unmappedReadValue := 0x00
  viaFlagWrites := .ignore
  kInt := 10000 / 256
  cpuHz := 1500000

/-- No count of the table is 0, as spec/70_reset_and_hazards.md R511 has it of every table. -/
def Config.cyclesPositive (c : Config) : Bool := c.baseCycles.all fun e => decide (1 ≤ e.cycles)

/-- FREE VALUE. `PB_INPUT()` (R455, D26): the byte on the Port B input pins at the n-th draw. Nothing
constrains it. -/
opaque Config.pbInput : Nat → Byte

/-- FREE VALUE. `PA_FLOAT()` (R455, D26): the byte on undriven Port A input pins at the n-th draw. Nothing
constrains it. -/
opaque Config.paFloat : Nat → Byte

/-- FREE VALUE. The unclamped level of a PSG channel in envelope mode at the n-th draw (R467, D30).
`Sys2Proof.Machine.envLevel` clamps it into the [0, 1] the spec promises. -/
opaque Config.envDraw : Nat → Rat

end Sys2Proof
end

