-- ==== Sys2Proof/Machine/Bits.lean ====
section
/-!
DEFINITION. The bit-field, extension and byte-order helpers of spec/00_scope.md R7 to R11 and
spec/20_memory.md R70.
-/
namespace Sys2Proof.Machine

/-- `v[15:8]` (R7): the byte that stands first in memory (R70). -/
def hiByte (w : Word) : Byte := w.extractLsb' 8 8

/-- `v[7:0]` (R7). -/
def loByte (w : Word) : Byte := w.extractLsb' 0 8

/-- `h:l` (R8): the word whose high byte is `h`. -/
def joinBytes (h l : Byte) : Word := h ++ l

/-- `sext_16` of a byte (R8). -/
def sext8 (v : Byte) : Word := v.signExtend 16

/-- `sext_16` of a 5-bit offset (R8, spec/40_addressing.md R140). -/
def sext5 (v : BitVec 5) : Word := v.signExtend 16

/-- `zext_16` of a byte (R8). -/
def zext8 (v : Byte) : Word := v.zeroExtend 16

/-- Bits 3 to 0 of a byte. -/
def lowNibble (v : Byte) : BitVec 4 := v.extractLsb' 0 4

/-- Bits 7 to 4 of a byte. -/
def highNibble (v : Byte) : BitVec 4 := v.extractLsb' 4 4

end Sys2Proof.Machine
end

