-- ==== Sys2Proof/WellFormed.lean ====
section
/-!
DEFINITION. Which instruction terms an encoding exists for. The operand types of Syntax.lean already
leave out the illegal indexed submodes and the undefined register nibbles; what is left is the width
rule of EXG and TFR (spec/45_stack_transfer.md R350).
-/
namespace Sys2Proof

/-- The register is 8 bits wide: bit 3 of its nibble (R109, R350). -/
def XReg.is8 : XReg → Bool
  | .r8 _ => true
  | .r16 _ => false

/-- "Bit 3 must equal bit 7 (same width)" (R350). -/
def XReg.sameWidth (r1 r2 : XReg) : Bool := r1.is8 == r2.is8

/-- An instruction an encoding exists for: an EXG or TFR pair has one width (R350), and every other term
is well formed. -/
def Instr.wellFormed : Instr → Bool
  | .exg r1 r2 => r1.sameWidth r2
  | .tfr r1 r2 => r1.sameWidth r2
  | _ => true

end Sys2Proof
end

