-- ==== Sys2Proof/Decode.lean ====
section
/-!
DEFINITION. The decoder, total on any bytes and rejecting by name (spec/30_encoding.md R100 to R119,
spec/40_addressing.md R140 to R143, spec/45_stack_transfer.md R350), and after it the encoder. The
opcode maps are written as the spec prints them, one row of sixteen cells for each high nibble.
-/
namespace Sys2Proof

open Sys2Proof.Machine

/-- Why bytes are no instruction. -/
inductive DecodeError where
  /-- The page and opcode have no row (R102, R115). -/
  | illegalOpcode (page : Page) (op : Byte)
  /-- Indexed submode 0111, 1010 or 1110 (spec/40_addressing.md R141). -/
  | illegalIndexedMode (pp : Byte)
  /-- EXG or TFR with mixed widths or an undefined nibble (spec/45_stack_transfer.md R350). -/
  | illegalRegisterTransfer (pp : Byte)
  /-- The bytes end before the instruction does. -/
  | truncated
  deriving DecidableEq, Repr

/-! ## The opcode maps -/

/-- The tier of a row (R118), with CWAI and SYNC apart because they also need the mc6809 interrupt model
(spec/46_extension.md R370). -/
inductive Tier where
  | base
  | extension
  | waiting
  deriving DecidableEq, Repr

/-- The format of a row (R103) with the instruction that its operand completes. -/
inductive OpForm where
  | inh (i : Instr)
  | imm8 (k : Byte → Instr)
  | imm16 (k : Word → Instr)
  | dir (k : Byte → Instr)
  | idx (k : Idx → Instr)
  | ext (k : Word → Instr)
  | rel8 (k : Byte → Instr)
  | rel16 (k : Word → Instr)
  | regpair (k : XReg → XReg → Instr)
  | reglist (k : Byte → Instr)

/-- One row of the opcode table (R118). -/
structure Row where
  tier : Tier
  form : OpForm

/-- A base-set cell of a map. -/
def base (f : OpForm) : Option Row := some ⟨.base, f⟩
/-- An extension-set cell of a map (R116). -/
def extn (f : OpForm) : Option Row := some ⟨.extension, f⟩
/-- A cell of CWAI or SYNC (R116, spec/46_extension.md R370). -/
def waitn (f : OpForm) : Option Row := some ⟨.waiting, f⟩

/-- A direct row of an instruction with a memory operand. -/
def dirE (k : Ea → Instr) : OpForm := .dir fun d => k (.dir d)
/-- An indexed row of an instruction with a memory operand. -/
def idxE (k : Ea → Instr) : OpForm := .idx fun x => k (.idx x)
/-- An extended row of an instruction with a memory operand. -/
def extE (k : Ea → Instr) : OpForm := .ext fun a => k (.ext a)
/-- The immediate row of an instruction with an 8-bit source. -/
def imm8S (k : Src8 → Instr) : OpForm := .imm8 fun v => k (.imm v)
/-- The direct row of an instruction with an 8-bit source. -/
def dirS (k : Src8 → Instr) : OpForm := dirE fun e => k (.mem e)
/-- The indexed row of an instruction with an 8-bit source. -/
def idxS (k : Src8 → Instr) : OpForm := idxE fun e => k (.mem e)
/-- The extended row of an instruction with an 8-bit source. -/
def extS (k : Src8 → Instr) : OpForm := extE fun e => k (.mem e)
/-- The immediate row of an instruction with a 16-bit source. -/
def imm16S (k : Src16 → Instr) : OpForm := .imm16 fun v => k (.imm v)
/-- The direct row of an instruction with a 16-bit source. -/
def dirW (k : Src16 → Instr) : OpForm := dirE fun e => k (.mem e)
/-- The indexed row of an instruction with a 16-bit source. -/
def idxW (k : Src16 → Instr) : OpForm := idxE fun e => k (.mem e)
/-- The extended row of an instruction with a 16-bit source. -/
def extW (k : Src16 → Instr) : OpForm := extE fun e => k (.mem e)

/-- The opcode map of page 0 (R110), row 0x. -/
def page0Row0 : List (Option Row) := [
  base (dirE .neg), none, none, base (dirE .com),
  base (dirE .lsr), none, extn (dirE .ror), base (dirE .asr),
  base (dirE .asl), extn (dirE .rol), base (dirE .dec), none,
  base (dirE .inc), base (dirE .tst), base (dirE .jmp), base (dirE .clr)]

/-- The opcode map of page 0 (R110), row 1x. -/
def page0Row1 : List (Option Row) := [
  none, none, base (.inh .nop), waitn (.inh .sync),
  none, none, base (.rel16 .lbra), base (.rel16 .lbsr),
  none, extn (.inh .daa), base (.imm8 .orcc), none,
  base (.imm8 .andcc), extn (.inh .sex), base (.regpair .exg), base (.regpair .tfr)]

/-- The opcode map of page 0 (R110), row 2x. -/
def page0Row2 : List (Option Row) := [
  base (.rel8 .bra), base (.rel8 .brn), base (.rel8 .bhi), base (.rel8 .bls),
  base (.rel8 .bcc), base (.rel8 .bcs), base (.rel8 .bne), base (.rel8 .beq),
  base (.rel8 .bvc), base (.rel8 .bvs), base (.rel8 .bpl), base (.rel8 .bmi),
  base (.rel8 .bge), base (.rel8 .blt), base (.rel8 .bgt), base (.rel8 .ble)]

/-- The opcode map of page 0 (R110), row 3x. -/
def page0Row3 : List (Option Row) := [
  base (.idx .leax), base (.idx .leay), base (.idx .leas), base (.idx .leau),
  base (.reglist .pshs), base (.reglist .puls), base (.reglist .pshu), base (.reglist .pulu),
  none, base (.inh .rts), extn (.inh .abx), extn (.inh .rti),
  waitn (.imm8 .cwai), extn (.inh .mul), none, extn (.inh .swi)]

/-- The opcode map of page 0 (R110), row 4x. -/
def page0Row4 : List (Option Row) := [
  base (.inh .nega), none, none, base (.inh .coma),
  base (.inh .lsra), none, extn (.inh .rora), base (.inh .asra),
  base (.inh .asla), extn (.inh .rola), base (.inh .deca), none,
  base (.inh .inca), base (.inh .tsta), none, base (.inh .clra)]

/-- The opcode map of page 0 (R110), row 5x. -/
def page0Row5 : List (Option Row) := [
  base (.inh .negb), none, none, base (.inh .comb),
  base (.inh .lsrb), none, extn (.inh .rorb), base (.inh .asrb),
  base (.inh .aslb), extn (.inh .rolb), base (.inh .decb), none,
  base (.inh .incb), base (.inh .tstb), none, base (.inh .clrb)]

/-- The opcode map of page 0 (R110), row 6x. -/
def page0Row6 : List (Option Row) := [
  base (idxE .neg), none, none, base (idxE .com),
  base (idxE .lsr), none, extn (idxE .ror), base (idxE .asr),
  base (idxE .asl), extn (idxE .rol), base (idxE .dec), none,
  base (idxE .inc), base (idxE .tst), base (idxE .jmp), base (idxE .clr)]

/-- The opcode map of page 0 (R110), row 7x. -/
def page0Row7 : List (Option Row) := [
  base (extE .neg), none, none, base (extE .com),
  base (extE .lsr), none, extn (extE .ror), base (extE .asr),
  base (extE .asl), extn (extE .rol), base (extE .dec), none,
  base (extE .inc), base (extE .tst), base (extE .jmp), base (extE .clr)]

/-- The opcode map of page 0 (R110), row 8x. -/
def page0Row8 : List (Option Row) := [
  base (imm8S .suba), base (imm8S .cmpa), extn (imm8S .sbca), base (imm16S .subd),
  base (imm8S .anda), base (imm8S .bita), base (imm8S .lda), none,
  extn (imm8S .eora), base (imm8S .adca), base (imm8S .ora), base (imm8S .adda),
  base (imm16S .cmpx), base (.rel8 .bsr), base (imm16S .ldx), none]

/-- The opcode map of page 0 (R110), row 9x. -/
def page0Row9 : List (Option Row) := [
  base (dirS .suba), base (dirS .cmpa), extn (dirS .sbca), base (dirW .subd),
  base (dirS .anda), base (dirS .bita), base (dirS .lda), base (dirE .sta),
  extn (dirS .eora), base (dirS .adca), base (dirS .ora), base (dirS .adda),
  base (dirW .cmpx), base (dirE .jsr), base (dirW .ldx), base (dirE .stx)]

/-- The opcode map of page 0 (R110), row Ax. -/
def page0RowA : List (Option Row) := [
  base (idxS .suba), base (idxS .cmpa), extn (idxS .sbca), base (idxW .subd),
  base (idxS .anda), base (idxS .bita), base (idxS .lda), base (idxE .sta),
  extn (idxS .eora), base (idxS .adca), base (idxS .ora), base (idxS .adda),
  base (idxW .cmpx), base (idxE .jsr), base (idxW .ldx), base (idxE .stx)]

/-- The opcode map of page 0 (R110), row Bx. -/
def page0RowB : List (Option Row) := [
  base (extS .suba), base (extS .cmpa), extn (extS .sbca), base (extW .subd),
  base (extS .anda), base (extS .bita), base (extS .lda), base (extE .sta),
  extn (extS .eora), base (extS .adca), base (extS .ora), base (extS .adda),
  base (extW .cmpx), base (extE .jsr), base (extW .ldx), base (extE .stx)]

/-- The opcode map of page 0 (R110), row Cx. -/
def page0RowC : List (Option Row) := [
  base (imm8S .subb), base (imm8S .cmpb), extn (imm8S .sbcb), base (imm16S .addd),
  base (imm8S .andb), base (imm8S .bitb), base (imm8S .ldb), none,
  extn (imm8S .eorb), base (imm8S .adcb), base (imm8S .orb), base (imm8S .addb),
  base (imm16S .ldd), none, base (imm16S .ldu), none]

/-- The opcode map of page 0 (R110), row Dx. -/
def page0RowD : List (Option Row) := [
  base (dirS .subb), base (dirS .cmpb), extn (dirS .sbcb), base (dirW .addd),
  base (dirS .andb), base (dirS .bitb), base (dirS .ldb), base (dirE .stb),
  extn (dirS .eorb), base (dirS .adcb), base (dirS .orb), base (dirS .addb),
  base (dirW .ldd), base (dirE .std), base (dirW .ldu), base (dirE .stu)]

/-- The opcode map of page 0 (R110), row Ex. -/
def page0RowE : List (Option Row) := [
  base (idxS .subb), base (idxS .cmpb), extn (idxS .sbcb), base (idxW .addd),
  base (idxS .andb), base (idxS .bitb), base (idxS .ldb), base (idxE .stb),
  extn (idxS .eorb), base (idxS .adcb), base (idxS .orb), base (idxS .addb),
  base (idxW .ldd), base (idxE .std), base (idxW .ldu), base (idxE .stu)]

/-- The opcode map of page 0 (R110), row Fx. -/
def page0RowF : List (Option Row) := [
  base (extS .subb), base (extS .cmpb), extn (extS .sbcb), base (extW .addd),
  base (extS .andb), base (extS .bitb), base (extS .ldb), base (extE .stb),
  extn (extS .eorb), base (extS .adcb), base (extS .orb), base (extS .addb),
  base (extW .ldd), base (extE .std), base (extW .ldu), base (extE .stu)]

/-- The opcode map of page 0 (R110). -/
def page0 : List (List (Option Row)) := [
  page0Row0, page0Row1, page0Row2, page0Row3, page0Row4, page0Row5, page0Row6, page0Row7,
  page0Row8, page0Row9, page0RowA, page0RowB, page0RowC, page0RowD, page0RowE, page0RowF]

/-- The opcode map of page 1, prefix 0x10 (R111), row 2x. -/
def page1Row2 : List (Option Row) := [
  none, base (.rel16 .lbrn), base (.rel16 .lbhi), base (.rel16 .lbls),
  base (.rel16 .lbcc), base (.rel16 .lbcs), base (.rel16 .lbne), base (.rel16 .lbeq),
  base (.rel16 .lbvc), base (.rel16 .lbvs), base (.rel16 .lbpl), base (.rel16 .lbmi),
  base (.rel16 .lbge), base (.rel16 .lblt), base (.rel16 .lbgt), base (.rel16 .lble)]

/-- The opcode map of page 1, prefix 0x10 (R111), row 3x. -/
def page1Row3 : List (Option Row) := [
  none, none, none, none,
  none, none, none, none,
  none, none, none, none,
  none, none, none, extn (.inh .swi2)]

/-- The opcode map of page 1, prefix 0x10 (R111), row 8x. -/
def page1Row8 : List (Option Row) := [
  none, none, none, base (imm16S .cmpd),
  none, none, none, none,
  none, none, none, none,
  base (imm16S .cmpy), none, base (imm16S .ldy), none]

/-- The opcode map of page 1, prefix 0x10 (R111), row 9x. -/
def page1Row9 : List (Option Row) := [
  none, none, none, base (dirW .cmpd),
  none, none, none, none,
  none, none, none, none,
  base (dirW .cmpy), none, base (dirW .ldy), base (dirE .sty)]

/-- The opcode map of page 1, prefix 0x10 (R111), row Ax. -/
def page1RowA : List (Option Row) := [
  none, none, none, base (idxW .cmpd),
  none, none, none, none,
  none, none, none, none,
  base (idxW .cmpy), none, base (idxW .ldy), base (idxE .sty)]

/-- The opcode map of page 1, prefix 0x10 (R111), row Bx. -/
def page1RowB : List (Option Row) := [
  none, none, none, base (extW .cmpd),
  none, none, none, none,
  none, none, none, none,
  base (extW .cmpy), none, base (extW .ldy), base (extE .sty)]

/-- The opcode map of page 1, prefix 0x10 (R111), row Cx. -/
def page1RowC : List (Option Row) := [
  none, none, none, none,
  none, none, none, none,
  none, none, none, none,
  none, none, base (imm16S .lds), none]

/-- The opcode map of page 1, prefix 0x10 (R111), row Dx. -/
def page1RowD : List (Option Row) := [
  none, none, none, none,
  none, none, none, none,
  none, none, none, none,
  none, none, base (dirW .lds), base (dirE .sts)]

/-- The opcode map of page 1, prefix 0x10 (R111), row Ex. -/
def page1RowE : List (Option Row) := [
  none, none, none, none,
  none, none, none, none,
  none, none, none, none,
  none, none, base (idxW .lds), base (idxE .sts)]

/-- The opcode map of page 1, prefix 0x10 (R111), row Fx. -/
def page1RowF : List (Option Row) := [
  none, none, none, none,
  none, none, none, none,
  none, none, none, none,
  none, none, base (extW .lds), base (extE .sts)]

/-- The opcode map of page 1, prefix 0x10 (R111). -/
def page1 : List (List (Option Row)) := [
  [], [], page1Row2, page1Row3, [], [], [], [],
  page1Row8, page1Row9, page1RowA, page1RowB, page1RowC, page1RowD, page1RowE, page1RowF]

/-- The opcode map of page 2, prefix 0x11 (R112), row 3x. -/
def page2Row3 : List (Option Row) := [
  none, none, none, none,
  none, none, none, none,
  none, none, none, none,
  none, none, none, extn (.inh .swi3)]

/-- The opcode map of page 2, prefix 0x11 (R112), row 8x. -/
def page2Row8 : List (Option Row) := [
  none, none, none, base (imm16S .cmpu),
  none, none, none, none,
  none, none, none, none,
  base (imm16S .cmps), none, none, none]

/-- The opcode map of page 2, prefix 0x11 (R112), row 9x. -/
def page2Row9 : List (Option Row) := [
  none, none, none, base (dirW .cmpu),
  none, none, none, none,
  none, none, none, none,
  base (dirW .cmps), none, none, none]

/-- The opcode map of page 2, prefix 0x11 (R112), row Ax. -/
def page2RowA : List (Option Row) := [
  none, none, none, base (idxW .cmpu),
  none, none, none, none,
  none, none, none, none,
  base (idxW .cmps), none, none, none]

/-- The opcode map of page 2, prefix 0x11 (R112), row Bx. -/
def page2RowB : List (Option Row) := [
  none, none, none, base (extW .cmpu),
  none, none, none, none,
  none, none, none, none,
  base (extW .cmps), none, none, none]

/-- The opcode map of page 2, prefix 0x11 (R112). -/
def page2 : List (List (Option Row)) := [
  [], [], [], page2Row3, [], [], [], [],
  page2Row8, page2Row9, page2RowA, page2RowB, [], [], [], []]

/-- The map of a page. -/
def Page.map : Page → List (List (Option Row))
  | .p0 => page0
  | .p1 => page1
  | .p2 => page2

/-- The row of a page and opcode, `none` where the opcode is illegal (R102, R115). -/
def lookup (p : Page) (op : Byte) : Option Row :=
  (p.map.getD (op.toNat / 16) []).getD (op.toNat % 16) none

/-- The page an instruction's first byte selects, `none` where that byte is itself the opcode (R101). -/
def pageOf (first : Byte) : Option Page :=
  if first = 0x10 then some .p1 else if first = 0x11 then some .p2 else none

/-! ## Post-bytes -/

/-- The register of post-byte bits 6-5 (R122). -/
def idxReg (pp : Byte) : IdxReg :=
  match (pp.extractLsb' 5 2).toNat with
  | 0 => .x
  | 1 => .y
  | 2 => .u
  | _ => .s

/-- What an indexed post-byte asks for next (spec/40_addressing.md R140). -/
inductive IdxForm where
  /-- No further byte. -/
  | none (x : Idx)
  /-- One offset byte. -/
  | one (k : Byte → Idx)
  /-- Two bytes, the high byte first. -/
  | two (k : Word → Idx)
  /-- An illegal submode (R141). -/
  | illegal

/-- The submode of an indexed post-byte (R108, spec/40_addressing.md R140 to R143). Bit 4 is ignored in
`,R+` and `,-R` (R142), bits 6 to 4 in `[n16]` (R143), bits 6 and 5 in the PC forms (R145). -/
def idxForm (pp : Byte) : IdxForm :=
  if pp.getLsbD 7 then
    match (lowNibble pp).toNat with
    | 0 => .none (.inc1 (idxReg pp))
    | 1 => .none (.inc2 (idxReg pp) (pp.getLsbD 4))
    | 2 => .none (.dec1 (idxReg pp))
    | 3 => .none (.dec2 (idxReg pp) (pp.getLsbD 4))
    | 4 => .none (.zero (idxReg pp) (pp.getLsbD 4))
    | 5 => .none (.accB (idxReg pp) (pp.getLsbD 4))
    | 6 => .none (.accA (idxReg pp) (pp.getLsbD 4))
    | 8 => .one fun n => .off8 (idxReg pp) n (pp.getLsbD 4)
    | 9 => .two fun n => .off16 (idxReg pp) n (pp.getLsbD 4)
    | 11 => .none (.accD (idxReg pp) (pp.getLsbD 4))
    | 12 => .one fun n => .pc8 n (pp.getLsbD 4)
    | 13 => .two fun n => .pc16 n (pp.getLsbD 4)
    | 15 => .two fun n => .extInd n
    | _ => .illegal
  else .none (.off5 (idxReg pp) (pp.extractLsb' 0 5))

/-- The register a nibble of an EXG/TFR post-byte names, `none` where it names no register
(spec/45_stack_transfer.md R350). -/
def xregOf (n : BitVec 4) : Option XReg :=
  match n.toNat with
  | 0 => some (.r16 .d)
  | 1 => some (.r16 .x)
  | 2 => some (.r16 .y)
  | 3 => some (.r16 .u)
  | 4 => some (.r16 .s)
  | 5 => some (.r16 .pc)
  | 8 => some (.r8 .a)
  | 9 => some (.r8 .b)
  | 10 => some (.r8 .cc)
  | 11 => some (.r8 .dp)
  | _ => none

/-- The pair of an EXG/TFR post-byte: both nibbles defined and of one width, else `none` (R350). -/
def regPair (pp : Byte) : Option (XReg × XReg) :=
  match xregOf (highNibble pp), xregOf (lowNibble pp) with
  | some r1, some r2 => if r1.sameWidth r2 then some (r1, r2) else none
  | _, _ => none

/-! ## The decoder -/

/-- One byte off the front. -/
def takeByte : List Byte → Except DecodeError (Byte × List Byte)
  | v :: rest => .ok (v, rest)
  | [] => .error .truncated

/-- A 16-bit value off the front, its high byte first (R104, R106, spec/20_memory.md R70). -/
def takeWord : List Byte → Except DecodeError (Word × List Byte)
  | h :: l :: rest => .ok (joinBytes h l, rest)
  | _ => .error .truncated

/-- An indexed operand off the front: the post-byte, then the bytes its submode asks for. -/
def takeIdx (bs : List Byte) : Except DecodeError (Idx × List Byte) := do
  let (pp, rest) ← takeByte bs
  match idxForm pp with
  | .none x => pure (x, rest)
  | .one k => do
    let (n, rest) ← takeByte rest
    pure (k n, rest)
  | .two k => do
    let (n, rest) ← takeWord rest
    pure (k n, rest)
  | .illegal => throw (.illegalIndexedMode pp)

/-- An EXG/TFR pair off the front. -/
def takePair (bs : List Byte) : Except DecodeError ((XReg × XReg) × List Byte) := do
  let (pp, rest) ← takeByte bs
  match regPair pp with
  | some p => pure (p, rest)
  | none => throw (.illegalRegisterTransfer pp)

/-- The operand of a row and the bytes after the instruction (R103). -/
def decodeOperand (f : OpForm) (bs : List Byte) : Except DecodeError (Instr × List Byte) :=
  match f with
  | .inh i => pure (i, bs)
  | .imm8 k | .dir k | .rel8 k | .reglist k => do
    let (v, rest) ← takeByte bs
    pure (k v, rest)
  | .imm16 k | .ext k | .rel16 k => do
    let (v, rest) ← takeWord bs
    pure (k v, rest)
  | .idx k => do
    let (x, rest) ← takeIdx bs
    pure (k x, rest)
  | .regpair k => do
    let (p, rest) ← takePair bs
    pure (k p.1 p.2, rest)

/-- The page and opcode at the front: at most one page byte is consumed (R101, D42). -/
def takeOpcode (bs : List Byte) : Except DecodeError ((Page × Byte) × List Byte) := do
  let (first, rest) ← takeByte bs
  match pageOf first with
  | none => pure ((.p0, first), rest)
  | some p => do
    let (op, rest) ← takeByte rest
    pure ((p, op), rest)

/-- The instruction at the front of a list of bytes and the bytes after it (R100 to R103, R119), or the
name of what is wrong. -/
def decode (bs : List Byte) : Except DecodeError (Instr × List Byte) := do
  let ((p, op), rest) ← takeOpcode bs
  match lookup p op with
  | none => throw (.illegalOpcode p op)
  | some row => decodeOperand row.form rest

/-! ## The encoder -/

/-- The page byte of an instruction (R101). -/
def Page.bytes : Page → List Byte
  | .p0 => []
  | .p1 => [0x10]
  | .p2 => [0x11]

/-- A 16-bit value as instruction bytes, the high byte first (spec/20_memory.md R70). -/
def wordBytes (w : Word) : List Byte := [hiByte w, loByte w]

/-- Post-byte bits 6-5 of a register (R122). -/
def IdxReg.bits : IdxReg → BitVec 2
  | .x => 0
  | .y => 1
  | .u => 2
  | .s => 3

/-- The post-byte of a submode `mode` of register `r` with indirection `ind` (R108). -/
def postByte (r : IdxReg) (ind : Bool) (mode : BitVec 4) : Byte :=
  (1#1 ++ r.bits) ++ (BitVec.ofBool ind ++ mode)

/-- The post-byte and extra bytes of an indexed operand (spec/40_addressing.md R140). Ignored bits are 0,
except in `[n16]`, whose post-byte is 0x9F. -/
def Idx.bytes : Idx → List Byte
  | .off5 r n => [(0#1 ++ r.bits) ++ n]
  | .inc1 r => [postByte r false 0]
  | .inc2 r ind => [postByte r ind 1]
  | .dec1 r => [postByte r false 2]
  | .dec2 r ind => [postByte r ind 3]
  | .zero r ind => [postByte r ind 4]
  | .accB r ind => [postByte r ind 5]
  | .accA r ind => [postByte r ind 6]
  | .off8 r n ind => [postByte r ind 8, n]
  | .off16 r n ind => postByte r ind 9 :: wordBytes n
  | .accD r ind => [postByte r ind 11]
  | .pc8 n ind => [postByte .x ind 12, n]
  | .pc16 n ind => postByte .x ind 13 :: wordBytes n
  | .extInd n => 0x9F :: wordBytes n

/-- The bytes of a memory operand after the opcode. -/
def Ea.bytes : Ea → List Byte
  | .dir d => [d]
  | .idx x => x.bytes
  | .ext a => wordBytes a

/-- The bytes of an 8-bit source after the opcode. -/
def Src8.bytes : Src8 → List Byte
  | .imm v => [v]
  | .mem e => e.bytes

/-- The bytes of a 16-bit source after the opcode. -/
def Src16.bytes : Src16 → List Byte
  | .imm v => wordBytes v
  | .mem e => e.bytes

/-- A choice by the form of a memory operand. -/
def Ea.pick {α : Type} (e : Ea) (dir idx ext : α) : α :=
  match e with
  | .dir _ => dir
  | .idx _ => idx
  | .ext _ => ext

/-- A choice by the form of an 8-bit source. -/
def Src8.pick {α : Type} (m : Src8) (imm dir idx ext : α) : α :=
  match m with
  | .imm _ => imm
  | .mem e => e.pick dir idx ext

/-- A choice by the form of a 16-bit source. -/
def Src16.pick {α : Type} (m : Src16) (imm dir idx ext : α) : α :=
  match m with
  | .imm _ => imm
  | .mem e => e.pick dir idx ext

/-- The nibble of a register in an EXG/TFR post-byte (spec/45_stack_transfer.md R350). -/
def XReg.nibble : XReg → BitVec 4
  | .r16 .d => 0
  | .r16 .x => 1
  | .r16 .y => 2
  | .r16 .u => 3
  | .r16 .s => 4
  | .r16 .pc => 5
  | .r8 .a => 8
  | .r8 .b => 9
  | .r8 .cc => 10
  | .r8 .dp => 11

/-- The EXG/TFR post-byte: source in the high nibble, destination in the low (R109). -/
def pairByte (r1 r2 : XReg) : Byte := r1.nibble ++ r2.nibble

/-- The page and opcode of an instruction (R118). -/
def opcodeOf : Instr → Page × Byte
  | .lda m => (.p0, m.pick 0x86 0x96 0xA6 0xB6)
  | .ldb m => (.p0, m.pick 0xC6 0xD6 0xE6 0xF6)
  | .ldd m => (.p0, m.pick 0xCC 0xDC 0xEC 0xFC)
  | .ldx m => (.p0, m.pick 0x8E 0x9E 0xAE 0xBE)
  | .ldy m => (.p1, m.pick 0x8E 0x9E 0xAE 0xBE)
  | .ldu m => (.p0, m.pick 0xCE 0xDE 0xEE 0xFE)
  | .lds m => (.p1, m.pick 0xCE 0xDE 0xEE 0xFE)
  | .sta e => (.p0, e.pick 0x97 0xA7 0xB7)
  | .stb e => (.p0, e.pick 0xD7 0xE7 0xF7)
  | .std e => (.p0, e.pick 0xDD 0xED 0xFD)
  | .stx e => (.p0, e.pick 0x9F 0xAF 0xBF)
  | .sty e => (.p1, e.pick 0x9F 0xAF 0xBF)
  | .stu e => (.p0, e.pick 0xDF 0xEF 0xFF)
  | .sts e => (.p1, e.pick 0xDF 0xEF 0xFF)
  | .leax _ => (.p0, 0x30)
  | .leay _ => (.p0, 0x31)
  | .leau _ => (.p0, 0x33)
  | .leas _ => (.p0, 0x32)
  | .clr e => (.p0, e.pick 0x0F 0x6F 0x7F)
  | .clra => (.p0, 0x4F)
  | .clrb => (.p0, 0x5F)
  | .adda m => (.p0, m.pick 0x8B 0x9B 0xAB 0xBB)
  | .addb m => (.p0, m.pick 0xCB 0xDB 0xEB 0xFB)
  | .addd m => (.p0, m.pick 0xC3 0xD3 0xE3 0xF3)
  | .adca m => (.p0, m.pick 0x89 0x99 0xA9 0xB9)
  | .adcb m => (.p0, m.pick 0xC9 0xD9 0xE9 0xF9)
  | .suba m => (.p0, m.pick 0x80 0x90 0xA0 0xB0)
  | .subb m => (.p0, m.pick 0xC0 0xD0 0xE0 0xF0)
  | .subd m => (.p0, m.pick 0x83 0x93 0xA3 0xB3)
  | .cmpa m => (.p0, m.pick 0x81 0x91 0xA1 0xB1)
  | .cmpb m => (.p0, m.pick 0xC1 0xD1 0xE1 0xF1)
  | .cmpd m => (.p1, m.pick 0x83 0x93 0xA3 0xB3)
  | .cmpx m => (.p0, m.pick 0x8C 0x9C 0xAC 0xBC)
  | .cmpy m => (.p1, m.pick 0x8C 0x9C 0xAC 0xBC)
  | .cmpu m => (.p2, m.pick 0x83 0x93 0xA3 0xB3)
  | .cmps m => (.p2, m.pick 0x8C 0x9C 0xAC 0xBC)
  | .neg e => (.p0, e.pick 0x00 0x60 0x70)
  | .nega => (.p0, 0x40)
  | .negb => (.p0, 0x50)
  | .inc e => (.p0, e.pick 0x0C 0x6C 0x7C)
  | .inca => (.p0, 0x4C)
  | .incb => (.p0, 0x5C)
  | .dec e => (.p0, e.pick 0x0A 0x6A 0x7A)
  | .deca => (.p0, 0x4A)
  | .decb => (.p0, 0x5A)
  | .asr e => (.p0, e.pick 0x07 0x67 0x77)
  | .asra => (.p0, 0x47)
  | .asrb => (.p0, 0x57)
  | .lsr e => (.p0, e.pick 0x04 0x64 0x74)
  | .lsra => (.p0, 0x44)
  | .lsrb => (.p0, 0x54)
  | .asl e => (.p0, e.pick 0x08 0x68 0x78)
  | .asla => (.p0, 0x48)
  | .aslb => (.p0, 0x58)
  | .com e => (.p0, e.pick 0x03 0x63 0x73)
  | .coma => (.p0, 0x43)
  | .comb => (.p0, 0x53)
  | .ora m => (.p0, m.pick 0x8A 0x9A 0xAA 0xBA)
  | .orb m => (.p0, m.pick 0xCA 0xDA 0xEA 0xFA)
  | .anda m => (.p0, m.pick 0x84 0x94 0xA4 0xB4)
  | .andb m => (.p0, m.pick 0xC4 0xD4 0xE4 0xF4)
  | .bita m => (.p0, m.pick 0x85 0x95 0xA5 0xB5)
  | .bitb m => (.p0, m.pick 0xC5 0xD5 0xE5 0xF5)
  | .orcc _ => (.p0, 0x1A)
  | .andcc _ => (.p0, 0x1C)
  | .tst e => (.p0, e.pick 0x0D 0x6D 0x7D)
  | .tsta => (.p0, 0x4D)
  | .tstb => (.p0, 0x5D)
  | .jmp e => (.p0, e.pick 0x0E 0x6E 0x7E)
  | .jsr e => (.p0, e.pick 0x9D 0xAD 0xBD)
  | .bsr _ => (.p0, 0x8D)
  | .lbsr _ => (.p0, 0x17)
  | .rts => (.p0, 0x39)
  | .nop => (.p0, 0x12)
  | .bra _ => (.p0, 0x20)
  | .brn _ => (.p0, 0x21)
  | .bhi _ => (.p0, 0x22)
  | .bls _ => (.p0, 0x23)
  | .bcc _ => (.p0, 0x24)
  | .bcs _ => (.p0, 0x25)
  | .bne _ => (.p0, 0x26)
  | .beq _ => (.p0, 0x27)
  | .bvc _ => (.p0, 0x28)
  | .bvs _ => (.p0, 0x29)
  | .bpl _ => (.p0, 0x2A)
  | .bmi _ => (.p0, 0x2B)
  | .bge _ => (.p0, 0x2C)
  | .blt _ => (.p0, 0x2D)
  | .bgt _ => (.p0, 0x2E)
  | .ble _ => (.p0, 0x2F)
  | .lbra _ => (.p0, 0x16)
  | .lbrn _ => (.p1, 0x21)
  | .lbhi _ => (.p1, 0x22)
  | .lbls _ => (.p1, 0x23)
  | .lbcc _ => (.p1, 0x24)
  | .lbcs _ => (.p1, 0x25)
  | .lbne _ => (.p1, 0x26)
  | .lbeq _ => (.p1, 0x27)
  | .lbvc _ => (.p1, 0x28)
  | .lbvs _ => (.p1, 0x29)
  | .lbpl _ => (.p1, 0x2A)
  | .lbmi _ => (.p1, 0x2B)
  | .lbge _ => (.p1, 0x2C)
  | .lblt _ => (.p1, 0x2D)
  | .lbgt _ => (.p1, 0x2E)
  | .lble _ => (.p1, 0x2F)
  | .pshs _ => (.p0, 0x34)
  | .puls _ => (.p0, 0x35)
  | .pshu _ => (.p0, 0x36)
  | .pulu _ => (.p0, 0x37)
  | .exg _ _ => (.p0, 0x1E)
  | .tfr _ _ => (.p0, 0x1F)
  | .eora m => (.p0, m.pick 0x88 0x98 0xA8 0xB8)
  | .eorb m => (.p0, m.pick 0xC8 0xD8 0xE8 0xF8)
  | .sbca m => (.p0, m.pick 0x82 0x92 0xA2 0xB2)
  | .sbcb m => (.p0, m.pick 0xC2 0xD2 0xE2 0xF2)
  | .rol e => (.p0, e.pick 0x09 0x69 0x79)
  | .rola => (.p0, 0x49)
  | .rolb => (.p0, 0x59)
  | .ror e => (.p0, e.pick 0x06 0x66 0x76)
  | .rora => (.p0, 0x46)
  | .rorb => (.p0, 0x56)
  | .mul => (.p0, 0x3D)
  | .sex => (.p0, 0x1D)
  | .abx => (.p0, 0x3A)
  | .daa => (.p0, 0x19)
  | .swi => (.p0, 0x3F)
  | .swi2 => (.p1, 0x3F)
  | .swi3 => (.p2, 0x3F)
  | .rti => (.p0, 0x3B)
  | .cwai _ => (.p0, 0x3C)
  | .sync => (.p0, 0x13)

/-- The bytes of an instruction after its opcode (R103). -/
def operandBytes : Instr → List Byte
  | .lda m => m.bytes
  | .ldb m => m.bytes
  | .ldd m => m.bytes
  | .ldx m => m.bytes
  | .ldy m => m.bytes
  | .ldu m => m.bytes
  | .lds m => m.bytes
  | .sta e => e.bytes
  | .stb e => e.bytes
  | .std e => e.bytes
  | .stx e => e.bytes
  | .sty e => e.bytes
  | .stu e => e.bytes
  | .sts e => e.bytes
  | .leax x => x.bytes
  | .leay x => x.bytes
  | .leau x => x.bytes
  | .leas x => x.bytes
  | .clr e => e.bytes
  | .clra => []
  | .clrb => []
  | .adda m => m.bytes
  | .addb m => m.bytes
  | .addd m => m.bytes
  | .adca m => m.bytes
  | .adcb m => m.bytes
  | .suba m => m.bytes
  | .subb m => m.bytes
  | .subd m => m.bytes
  | .cmpa m => m.bytes
  | .cmpb m => m.bytes
  | .cmpd m => m.bytes
  | .cmpx m => m.bytes
  | .cmpy m => m.bytes
  | .cmpu m => m.bytes
  | .cmps m => m.bytes
  | .neg e => e.bytes
  | .nega => []
  | .negb => []
  | .inc e => e.bytes
  | .inca => []
  | .incb => []
  | .dec e => e.bytes
  | .deca => []
  | .decb => []
  | .asr e => e.bytes
  | .asra => []
  | .asrb => []
  | .lsr e => e.bytes
  | .lsra => []
  | .lsrb => []
  | .asl e => e.bytes
  | .asla => []
  | .aslb => []
  | .com e => e.bytes
  | .coma => []
  | .comb => []
  | .ora m => m.bytes
  | .orb m => m.bytes
  | .anda m => m.bytes
  | .andb m => m.bytes
  | .bita m => m.bytes
  | .bitb m => m.bytes
  | .orcc m => [m]
  | .andcc m => [m]
  | .tst e => e.bytes
  | .tsta => []
  | .tstb => []
  | .jmp e => e.bytes
  | .jsr e => e.bytes
  | .bsr off => [off]
  | .lbsr off => wordBytes off
  | .rts => []
  | .nop => []
  | .bra off => [off]
  | .brn off => [off]
  | .bhi off => [off]
  | .bls off => [off]
  | .bcc off => [off]
  | .bcs off => [off]
  | .bne off => [off]
  | .beq off => [off]
  | .bvc off => [off]
  | .bvs off => [off]
  | .bpl off => [off]
  | .bmi off => [off]
  | .bge off => [off]
  | .blt off => [off]
  | .bgt off => [off]
  | .ble off => [off]
  | .lbra off => wordBytes off
  | .lbrn off => wordBytes off
  | .lbhi off => wordBytes off
  | .lbls off => wordBytes off
  | .lbcc off => wordBytes off
  | .lbcs off => wordBytes off
  | .lbne off => wordBytes off
  | .lbeq off => wordBytes off
  | .lbvc off => wordBytes off
  | .lbvs off => wordBytes off
  | .lbpl off => wordBytes off
  | .lbmi off => wordBytes off
  | .lbge off => wordBytes off
  | .lblt off => wordBytes off
  | .lbgt off => wordBytes off
  | .lble off => wordBytes off
  | .pshs m => [m]
  | .puls m => [m]
  | .pshu m => [m]
  | .pulu m => [m]
  | .exg r1 r2 => [pairByte r1 r2]
  | .tfr r1 r2 => [pairByte r1 r2]
  | .eora m => m.bytes
  | .eorb m => m.bytes
  | .sbca m => m.bytes
  | .sbcb m => m.bytes
  | .rol e => e.bytes
  | .rola => []
  | .rolb => []
  | .ror e => e.bytes
  | .rora => []
  | .rorb => []
  | .mul => []
  | .sex => []
  | .abx => []
  | .daa => []
  | .swi => []
  | .swi2 => []
  | .swi3 => []
  | .rti => []
  | .cwai m => [m]
  | .sync => []

/-- The bytes of an instruction, in memory order (R100). -/
def encode (i : Instr) : List Byte :=
  (opcodeOf i).1.bytes ++ (opcodeOf i).2 :: operandBytes i

/-! ## Words as spec/opcode_table.json numbers them -/

/-- The `k` low bytes of `w`, the least significant first. -/
def leBytes : Nat → Nat → List Byte
  | 0, _ => []
  | k + 1, w => BitVec.ofNat 8 w :: leBytes k (w / 256)

/-- The bytes of a table word in memory order. The table writes a row with a page byte as one 16-bit number
with the page byte, the first in memory, in bits 15 to 8 (0x11AC); every other word is numbered from
its first byte up. -/
def tableBytes (nbits w : Nat) : List Byte :=
  if nbits = 16 ∧ (w / 256 = 0x10 ∨ w / 256 = 0x11) then
    [BitVec.ofNat 8 (w / 256), BitVec.ofNat 8 w]
  else leBytes (nbits / 8) w

/-- The five bytes, the length of the longest instruction (R100), that a table word stands for: its own
bytes, then zeros. -/
def fetchWindow (nbits w : Nat) : List Byte :=
  (tableBytes nbits w ++ [0, 0, 0, 0, 0]).take 5

/-- The instruction the decoder reads from a table word. -/
def decodeTableWord (nbits w : Nat) : Option Instr :=
  match decode (fetchWindow nbits w) with
  | .ok (i, _) => some i
  | .error _ => none

end Sys2Proof
end

