-- ==== Sys2Proof/Machine/Cycles.lean ====
section
/-!
DEFINITION. `BASE_CYCLES` (spec/30_encoding.md R118): the count each instruction starts from, before the
indexed extras, the taken-branch cycle and the push and pull cycles.
-/
namespace Sys2Proof.Machine

/-- The count that R118's own table prints for an instruction's row. -/
def defaultCycles : Instr → Nat
  | .lda m => m.pick 2 4 4 5
  | .ldb m => m.pick 2 4 4 5
  | .ldd m => m.pick 3 5 5 6
  | .ldx m => m.pick 3 5 5 6
  | .ldy m => m.pick 4 6 6 7
  | .ldu m => m.pick 3 5 5 6
  | .lds m => m.pick 4 6 6 7
  | .sta e => e.pick 4 4 5
  | .stb e => e.pick 4 4 5
  | .std e => e.pick 5 5 6
  | .stx e => e.pick 5 5 6
  | .sty e => e.pick 6 6 7
  | .stu e => e.pick 5 5 6
  | .sts e => e.pick 6 6 7
  | .leax _ => 4
  | .leay _ => 4
  | .leau _ => 4
  | .leas _ => 4
  | .clr e => e.pick 6 6 7
  | .clra => 2
  | .clrb => 2
  | .adda m => m.pick 2 4 4 5
  | .addb m => m.pick 2 4 4 5
  | .addd m => m.pick 4 6 6 7
  | .adca m => m.pick 2 4 4 5
  | .adcb m => m.pick 2 4 4 5
  | .suba m => m.pick 2 4 4 5
  | .subb m => m.pick 2 4 4 5
  | .subd m => m.pick 4 6 6 7
  | .cmpa m => m.pick 2 4 4 5
  | .cmpb m => m.pick 2 4 4 5
  | .cmpd m => m.pick 5 7 7 8
  | .cmpx m => m.pick 4 6 6 7
  | .cmpy m => m.pick 5 7 7 8
  | .cmpu m => m.pick 5 7 7 8
  | .cmps m => m.pick 5 7 7 8
  | .neg e => e.pick 6 6 7
  | .nega => 2
  | .negb => 2
  | .inc e => e.pick 6 6 7
  | .inca => 2
  | .incb => 2
  | .dec e => e.pick 6 6 7
  | .deca => 2
  | .decb => 2
  | .asr e => e.pick 6 6 7
  | .asra => 2
  | .asrb => 2
  | .lsr e => e.pick 6 6 7
  | .lsra => 2
  | .lsrb => 2
  | .asl e => e.pick 6 6 7
  | .asla => 2
  | .aslb => 2
  | .com e => e.pick 6 6 7
  | .coma => 2
  | .comb => 2
  | .ora m => m.pick 2 4 4 5
  | .orb m => m.pick 2 4 4 5
  | .anda m => m.pick 2 4 4 5
  | .andb m => m.pick 2 4 4 5
  | .bita m => m.pick 2 4 4 5
  | .bitb m => m.pick 2 4 4 5
  | .orcc _ => 3
  | .andcc _ => 3
  | .tst e => e.pick 6 6 7
  | .tsta => 2
  | .tstb => 2
  | .jmp e => e.pick 3 3 4
  | .jsr e => e.pick 7 7 8
  | .bsr _ => 7
  | .lbsr _ => 9
  | .rts => 5
  | .nop => 2
  | .bra _ => 3
  | .brn _ => 3
  | .bhi _ => 3
  | .bls _ => 3
  | .bcc _ => 3
  | .bcs _ => 3
  | .bne _ => 3
  | .beq _ => 3
  | .bvc _ => 3
  | .bvs _ => 3
  | .bpl _ => 3
  | .bmi _ => 3
  | .bge _ => 3
  | .blt _ => 3
  | .bgt _ => 3
  | .ble _ => 3
  | .lbra _ => 5
  | .lbrn _ => 5
  | .lbhi _ => 5
  | .lbls _ => 5
  | .lbcc _ => 5
  | .lbcs _ => 5
  | .lbne _ => 5
  | .lbeq _ => 5
  | .lbvc _ => 5
  | .lbvs _ => 5
  | .lbpl _ => 5
  | .lbmi _ => 5
  | .lbge _ => 5
  | .lblt _ => 5
  | .lbgt _ => 5
  | .lble _ => 5
  | .pshs _ => 5
  | .puls _ => 5
  | .pshu _ => 5
  | .pulu _ => 5
  | .exg _ _ => 8
  | .tfr _ _ => 6
  | .eora m => m.pick 2 4 4 5
  | .eorb m => m.pick 2 4 4 5
  | .sbca m => m.pick 2 4 4 5
  | .sbcb m => m.pick 2 4 4 5
  | .rol e => e.pick 6 6 7
  | .rola => 2
  | .rolb => 2
  | .ror e => e.pick 6 6 7
  | .rora => 2
  | .rorb => 2
  | .mul => 11
  | .sex => 2
  | .abx => 3
  | .daa => 2
  | .swi => 19
  | .swi2 => 20
  | .swi3 => 20
  | .rti => 6
  | .cwai _ => 20
  | .sync => 4

/-- The count of a row in a table: the first entry for it, else R118's own count `n`. -/
def cyclesAt : List CycleEntry → Page × Byte → Nat → Nat
  | [], _, n => n
  | e :: rest, row, n => if e.page = row.1 ∧ e.opcode = row.2 then e.cycles else cyclesAt rest row n

/-- `BASE_CYCLES(page, opcode)` of an instruction's row (spec/00_scope.md R6, R14, R118): the configured table's
count. -/
def baseCycles (c : Config) (i : Instr) : Nat := cyclesAt c.baseCycles (opcodeOf i) (defaultCycles i)

end Sys2Proof.Machine
end

