-- ==== Sys2Proof/Machine/Flags.lean ====
section
/-!
DEFINITION. The condition codes (spec/10_state.md R35), the flag helpers (spec/00_scope.md R15), the
arithmetic helpers (spec/42_arithmetic.md R200 to R204), every operation of the instruction families on
a value and CC, and the branch predicates (spec/44_control.md R306).
-/
namespace Sys2Proof.Machine

/-! ## The bits of CC -/

/-- The condition codes in bit order from bit 0 (R35). -/
inductive Flag where
  /-- Carry. -/
  | c
  /-- Overflow. -/
  | v
  /-- Zero. -/
  | z
  /-- Negative. -/
  | n
  /-- Interrupt mask. -/
  | i
  /-- Half carry. -/
  | h
  /-- Fast interrupt mask. -/
  | f
  /-- Entire. -/
  | e
  deriving DecidableEq, Repr

/-- The bit position of a flag (R35). -/
def Flag.pos : Flag → Nat
  | .c => 0
  | .v => 1
  | .z => 2
  | .n => 3
  | .i => 4
  | .h => 5
  | .f => 6
  | .e => 7

/-- The flag `g` of a CC value. -/
def flag (g : Flag) (cc : Byte) : Bool := cc.getLsbD g.pos

/-- CC with the flag `g` at `v`, every other bit kept. -/
def putFlag (g : Flag) (v : Bool) (cc : Byte) : Byte :=
  if v then cc ||| (1#8 <<< g.pos) else cc &&& ~~~(1#8 <<< g.pos)

/-- `NZ(r)` (R15): N from the top bit of the result, Z from its being 0. -/
def putNZ {w : Nat} (r : BitVec w) (cc : Byte) : Byte :=
  putFlag .z (r == 0) (putFlag .n r.msb cc)

/-- N and Z from the result, V = 0: loads, stores, logic and TST (spec/41_load_store.md R170,
spec/43_shift_logic.md R262 to R272). -/
def putNZ0 {w : Nat} (r : BitVec w) (cc : Byte) : Byte := putFlag .v false (putNZ r cc)

/-! ## Arithmetic helpers -/

/-- What an addition or subtraction answers: the result and N, Z, V, C (R200, R201). -/
structure Arith (w : Nat) where
  r : BitVec w
  n : Bool
  z : Bool
  v : Bool
  c : Bool
  deriving DecidableEq, Repr

/-- A bit widened to `w` bits. -/
def carryIn (w : Nat) (c : Bool) : BitVec w := (BitVec.ofBool c).zeroExtend w

/-- `a + b + c` on `w` bits (R200, R201): the sum on one more bit, its top bit the carry, and V from the
signs of the operands and the result. -/
def addWide {w : Nat} (a b : BitVec w) (c : Bool) : Arith w :=
  let s : BitVec (w + 1) := a.zeroExtend (w + 1) + b.zeroExtend (w + 1) + carryIn (w + 1) c
  let r : BitVec w := s.truncate w
  { r := r, n := r.msb, z := r == 0, v := ((a ^^^ r) &&& (b ^^^ r)).msb, c := s.msb }

/-- `Add8(a, b, c)` without its H (R200). -/
def add8 (a b : Byte) (c : Bool) : Arith 8 := addWide a b c

/-- The H of `Add8(a, b, c)` (R200, D7). -/
def halfCarry (a b : Byte) (c : Bool) : Bool :=
  decide (0xF < (lowNibble a).toNat + (lowNibble b).toNat + c.toNat)

/-- `Add16(a, b)` (R201). -/
def add16 (a b : Word) : Arith 16 := addWide a b false

/-- `Sub8(a, b)` (R202): `a + ~b + 1`, then C inverted. -/
def sub8 (a b : Byte) : Arith 8 :=
  let t := add8 a (~~~b) true
  { t with c := !t.c }

/-- `Sub16(a, b)` (R203): `a + ~b + 1`, then C inverted. -/
def sub16 (a b : Word) : Arith 16 :=
  let t := addWide a (~~~b) true
  { t with c := !t.c }

/-- `SetNZVC(t)` (R204). -/
def putNZVC {w : Nat} (t : Arith w) (cc : Byte) : Byte :=
  putFlag .c t.c (putFlag .v t.v (putFlag .z t.z (putFlag .n t.n cc)))

/-! ## Operations of two operands: register, operand, CC; answering result and CC -/

/-- LDA, LDB: the operand, N, Z and V = 0 (spec/41_load_store.md R171, R172). -/
def ldOp {w : Nat} (_ m : BitVec w) (cc : Byte) : BitVec w × Byte := (m, putNZ0 m cc)

/-- ADDA, ADDB (R208, R209). -/
def addOp (a m cc : Byte) : Byte × Byte :=
  ((add8 a m false).r, putFlag .h (halfCarry a m false) (putNZVC (add8 a m false) cc))

/-- ADCA, ADCB, the carry in being C (R211, R212). -/
def adcOp (a m cc : Byte) : Byte × Byte :=
  ((add8 a m (flag .c cc)).r,
    putFlag .h (halfCarry a m (flag .c cc)) (putNZVC (add8 a m (flag .c cc)) cc))

/-- SUBA, SUBB and the compares CMPA, CMPB, H kept (R213, R214, R216, R217). -/
def subOp (a m cc : Byte) : Byte × Byte := ((sub8 a m).r, putNZVC (sub8 a m) cc)

/-- SBCA, SBCB (spec/46_extension.md R373, R374): `a + ~m + (1 - C)`, then C inverted. -/
def sbcOp (a m cc : Byte) : Byte × Byte :=
  let t := add8 a (~~~m) (!flag .c cc)
  (t.r, putNZVC { t with c := !t.c } cc)

/-- ORA, ORB (spec/43_shift_logic.md R262, R263). -/
def orOp (a m cc : Byte) : Byte × Byte := (a ||| m, putNZ0 (a ||| m) cc)

/-- ANDA, ANDB and the tests BITA, BITB (R264 to R267). -/
def andOp (a m cc : Byte) : Byte × Byte := (a &&& m, putNZ0 (a &&& m) cc)

/-- EORA, EORB (spec/46_extension.md R371, R372). -/
def eorOp (a m cc : Byte) : Byte × Byte := (a ^^^ m, putNZ0 (a ^^^ m) cc)

/-- ADDD, H kept (R210). -/
def addWordOp (d m : Word) (cc : Byte) : Word × Byte := ((add16 d m).r, putNZVC (add16 d m) cc)

/-- SUBD and the 16-bit compares, H kept (R215, R218 to R222). -/
def subWordOp (d m : Word) (cc : Byte) : Word × Byte := ((sub16 d m).r, putNZVC (sub16 d m) cc)

/-! ## Operations of one operand: value, CC; answering result and CC -/

/-- NEG: V = (v == 0x80), C = (v != 0) (R223 to R225). -/
def negOp (v cc : Byte) : Byte × Byte :=
  (0 - v, putFlag .c (v != 0) (putFlag .v (v == 0x80) (putNZ (0 - v) cc)))

/-- `IncV(v, r)` (R226, D3). -/
def incV (rule : IncVRule) (v r : Byte) : Bool :=
  match rule with
  | .document => r == 0
  | .mc6809 => v == 0x7F

/-- INC, C kept (R226 to R228). -/
def incOp (rule : IncVRule) (v cc : Byte) : Byte × Byte :=
  (v + 1, putFlag .v (incV rule v (v + 1)) (putNZ (v + 1) cc))

/-- DEC: V = (v == 0x80), C kept (R229 to R231). -/
def decOp (v cc : Byte) : Byte × Byte := (v - 1, putFlag .v (v == 0x80) (putNZ (v - 1) cc))

/-- CLR: N = 0, Z = 1, V = 0, C = 0 (R205 to R207). -/
def clrCC (cc : Byte) : Byte :=
  putFlag .c false (putFlag .v false (putFlag .z true (putFlag .n false cc)))

/-- ASR: bit 7 kept, C = bit 0, V kept (spec/43_shift_logic.md R250 to R252). -/
def asrOp (v cc : Byte) : Byte × Byte :=
  let r := (v >>> 1) ||| (v &&& 0x80)
  (r, putFlag .c (v.getLsbD 0) (putNZ r cc))

/-- LSR: C = bit 0, V kept (R253 to R255). -/
def lsrOp (v cc : Byte) : Byte × Byte := (v >>> 1, putFlag .c (v.getLsbD 0) (putNZ (v >>> 1) cc))

/-- ASL: C = bit 7, V = bit 7 xor bit 6 (R256 to R258). -/
def aslOp (v cc : Byte) : Byte × Byte :=
  (v <<< 1, putFlag .v (v.getLsbD 7 ^^ v.getLsbD 6) (putFlag .c (v.getLsbD 7) (putNZ (v <<< 1) cc)))

/-- COM: V = 0, C = 1 (R259 to R261). -/
def comOp (v cc : Byte) : Byte × Byte :=
  (~~~v, putFlag .c true (putFlag .v false (putNZ (~~~v) cc)))

/-- ROL through C (spec/46_extension.md R375 to R377). -/
def rolOp (v cc : Byte) : Byte × Byte :=
  let r := (v <<< 1) ||| carryIn 8 (flag .c cc)
  (r, putFlag .v (v.getLsbD 7 ^^ v.getLsbD 6) (putFlag .c (v.getLsbD 7) (putNZ r cc)))

/-- ROR through C, V kept (R378 to R380). -/
def rorOp (v cc : Byte) : Byte × Byte :=
  let r := (v >>> 1) ||| (carryIn 8 (flag .c cc) <<< 7)
  (r, putFlag .c (v.getLsbD 0) (putNZ r cc))

/-! ## Operations of the extension set on accumulators -/

/-- MUL: the product of A and B, Z and C = bit 7 of the product (R381). -/
def mulProduct (a b : Byte) : Word := zext8 a * zext8 b

/-- MUL's CC (R381). -/
def mulCC (p : Word) (cc : Byte) : Byte := putFlag .c (p.getLsbD 7) (putFlag .z (p == 0) cc)

/-- SEX's A: the sign of B in every bit (R382). -/
def sexHigh (b : Byte) : Byte := if b.getLsbD 7 then 0xFF else 0x00

/-- SEX's CC: N from A, Z from D, V kept (R382, D8). -/
def sexCC (b cc : Byte) : Byte :=
  putFlag .z (joinBytes (sexHigh b) b == 0) (putFlag .n (sexHigh b).msb cc)

/-- DAA's correction: 0x06 and 0x60, each by its condition (R384). -/
def daaCorrection (a cc : Byte) : Byte :=
  let lsn := (lowNibble a).toNat
  let msn := (highNibble a).toNat
  (if flag .h cc || decide (9 < lsn) then 0x06 else 0x00) |||
    (if flag .c cc || decide (9 < msn) || (decide (8 < msn) && decide (9 < lsn)) then 0x60 else 0x00)

/-- DAA: C is set by the carry out and never cleared, V and H kept (R384). -/
def daaOp (a cc : Byte) : Byte × Byte :=
  let t := add8 a (daaCorrection a cc) false
  (t.r, putFlag .c (flag .c cc || t.c) (putNZ t.r cc))

/-! ## Branch predicates -/

/-- The sixteen branch conditions (spec/44_control.md R306). -/
inductive Cond where
  | always
  | never
  | hi
  | ls
  | carryClear
  | carrySet
  | ne
  | eq
  | vc
  | vs
  | pl
  | mi
  | ge
  | lt
  | gt
  | le
  deriving DecidableEq, Repr

/-- Whether a condition holds of CC (R306). -/
def Cond.holds (p : Cond) (cc : Byte) : Bool :=
  match p with
  | .always => true
  | .never => false
  | .hi => !(flag .c cc || flag .z cc)
  | .ls => flag .c cc || flag .z cc
  | .carryClear => !flag .c cc
  | .carrySet => flag .c cc
  | .ne => !flag .z cc
  | .eq => flag .z cc
  | .vc => !flag .v cc
  | .vs => flag .v cc
  | .pl => !flag .n cc
  | .mi => flag .n cc
  | .ge => !(flag .n cc ^^ flag .v cc)
  | .lt => flag .n cc ^^ flag .v cc
  | .gt => !(flag .z cc || (flag .n cc ^^ flag .v cc))
  | .le => flag .z cc || (flag .n cc ^^ flag .v cc)

end Sys2Proof.Machine
end

