-- ==== Sys2Proof/Machine/Memory.lean ====
section
/-!
DEFINITION. Stored bytes as a list of (address, byte) cells in one canonical form: addresses strictly
rising and no cell equal to what an unlisted address reads as. That is 0x00: the content of RAM after
reset (spec/10_state.md R43) and the value past the end of an image (spec/20_memory.md R64, R68).
-/
namespace Sys2Proof.Machine

/-- The stored bytes, a list of cells. -/
abbrev Memory := List Host.Cell

/-- What an address with no cell reads as (R43, R64, R68). -/
def Memory.unlisted : Byte := 0x00

/-- The byte at an address. -/
def Memory.get : Memory → Nat → Byte
  | [], _ => Memory.unlisted
  | (k, v) :: m, a => if a = k then v else Memory.get m a

/-- The memory with `v` at `a`, in canonical form again. -/
def Memory.put : Memory → Nat → Byte → Memory
  | [], a, v => if v = Memory.unlisted then [] else [(a, v)]
  | (k, w) :: m, a, v =>
    if a < k then (if v = Memory.unlisted then (k, w) :: m else (a, v) :: (k, w) :: m)
    else if a = k then (if v = Memory.unlisted then m else (a, v) :: m)
    else (k, w) :: Memory.put m a v

/-- The memory without the cells of `[base, base + size)`. -/
def Memory.clear (m : Memory) (base size : Nat) : Memory :=
  m.filter fun c => !(decide (base ≤ c.1) && decide (c.1 < base + size))

/-- The memory with the bytes of `img` from `a` up. -/
def Memory.putAll : Memory → Nat → List Byte → Memory
  | m, _, [] => m
  | m, a, v :: img => Memory.putAll (m.put a v) (a + 1) img

/-- The canonical form from address `low` up. -/
def Memory.wfFrom : Nat → Memory → Bool
  | _, [] => true
  | low, (k, v) :: m => decide (low ≤ k) && (v != Memory.unlisted) && Memory.wfFrom (k + 1) m

/-- The canonical form: addresses strictly rising, no cell at the unlisted value. -/
def Memory.wf (m : Memory) : Bool := Memory.wfFrom 0 m

end Sys2Proof.Machine
end

