-- ==== Sys2Proof/Machine/State.lean ====
section
/-!
DEFINITION. Every piece of state the spec gives the machine (spec/10_state.md R30 to R43), as plain data,
the state after reset, and the two ways a step can stop.
-/
namespace Sys2Proof.Machine

/-! ## Faults as recorded (spec/60_exceptions.md R410, R480) -/

/-- The closed list of fatal faults with the info each records (R410). All of them are the spec's own: an
outcome that stops here stops where the hardware stops, so each is safe. -/
inductive FaultKind where
  /-- Raised by the fetch when page and opcode have no row (spec/30_encoding.md R115). Safe. -/
  | illegalOpcode (page : Page) (op : Byte)
  /-- Raised by the fetch and by the meaning of an extension-set opcode that the configuration does not
  execute (spec/46_extension.md R370). Safe. -/
  | unimplementedOpcode (page : Page) (op : Byte)
  /-- Raised by the fetch at a post-byte with submode 0111, 1010 or 1110 (spec/40_addressing.md R141). Safe. -/
  | illegalIndexedMode (pp : Byte)
  /-- Raised by the fetch, and by EXG and TFR of an ill-formed pair, at a post-byte of mixed widths or
  undefined nibbles (spec/45_stack_transfer.md R350). Safe. -/
  | illegalRegisterTransfer (pp : Byte)
  /-- Raised by a write of VIA register 11 with bits 6-5 not 00 (R449). Safe. -/
  | unsupportedViaAcr (v : Byte)
  /-- Raised by a write of VIA register 12 with CA2 or CB2 not 110 or 111 (R450). Safe. -/
  | unsupportedViaPcr (v : Byte)
  /-- Raised by a read or write of VIA register index 15 (R441, R442). Safe. -/
  | unmodelledViaRegister (addr : Word)
  /-- Raised under `strict` by a write of VIA register 13 or 14 that would change it (R451). Safe. -/
  | unmodelledViaWrite (index : Nat) (v : Byte)
  /-- Raised by the interrupt poll under the fault model when an unmasked IRQ is asserted (R430). Safe. -/
  | unmodelledInterrupt (flags : BitVec 7)
  deriving DecidableEq, Repr

/-- The fault record `(kind, info, pc0)` (R480): `pc0` is the address of the first byte of the instruction
whose step raised it. -/
structure FaultRecord where
  kind : FaultKind
  pc0 : Word
  deriving DecidableEq, Repr

/-! ## The VIA and the beam integrator (spec/10_state.md R41) -/

/-- A point of the beam: two exact rationals (R41, D24). -/
structure Point where
  x : Rat
  y : Rat
  deriving DecidableEq, Repr

/-- A drawn segment `(from, to, intensity)` of the line buffer (R41, spec/60_exceptions.md R454). -/
structure Segment where
  start : Point
  stop : Point
  intensity : Byte
  deriving DecidableEq, Repr

/-- The VIA's registers, its timers' internal bits, the integrator and the line buffer (R41). -/
structure Via where
  /-- Output register B. -/
  orb : Byte
  /-- Output register A. -/
  ora : Byte
  /-- Data direction of Port B. -/
  ddrb : Byte
  /-- Data direction of Port A. -/
  ddra : Byte
  /-- Timer1 counter. -/
  t1c : Word
  /-- Timer1 latch, low half. -/
  t1lL : Byte
  /-- Timer1 latch, high half. -/
  t1lH : Byte
  /-- Timer2 counter. -/
  t2c : Word
  /-- Timer2 latch, low half. -/
  t2lL : Byte
  /-- Shift register (storage only, R456). -/
  sr : Byte
  /-- Auxiliary control. -/
  acr : Byte
  /-- Peripheral control. -/
  pcr : Byte
  /-- Interrupt flags, bits 6 to 0. -/
  ifr : BitVec 7
  /-- Interrupt enables, bits 6 to 0. -/
  ier : BitVec 7
  /-- Timer1 will set its flag at its next expiry (R446). -/
  t1Armed : Bool
  /-- Timer2 will set its flag at its next expiry (R448). -/
  t2Armed : Bool
  /-- Timer1's output on PB7 (R446). -/
  t1Pb7 : Bool
  /-- /ZERO is active (R450). -/
  zeroActive : Bool
  /-- Beam position, x. -/
  posX : Rat
  /-- Beam position, y. -/
  posY : Rat
  /-- X integrator velocity. -/
  vx : Byte
  /-- Y integrator velocity. -/
  vy : Byte
  /-- XY integrator offset. -/
  offset : Byte
  /-- Beam brightness. -/
  brightness : Byte
  /-- The beam is off (R450). -/
  blank : Bool
  /-- The line buffer, oldest segment first. -/
  lines : List Segment
  /-- The model's own: the index of the next free value of the input pins (R455). -/
  draws : Nat
  deriving DecidableEq, Repr

/-! ## The PSG (spec/10_state.md R42) -/

/-- The PSG bus modes (spec/60_exceptions.md R461). -/
inductive PsgMode where
  | inactive
  | read
  | write
  | latchAddress
  deriving DecidableEq, Repr

/-- One tone generator: its down-counter and its square-wave output bit (R42). -/
structure Tone where
  cnt : BitVec 12
  out : Bool
  deriving DecidableEq, Repr

/-- The PSG's registers, generators, divider, bus state and output (R42). -/
structure Psg where
  /-- The sixteen registers R[0..15]. -/
  regs : Vector Byte 16
  /-- Tone generator 0, channel A. -/
  toneA : Tone
  /-- Tone generator 1, channel B. -/
  toneB : Tone
  /-- Tone generator 2, channel C. -/
  toneC : Tone
  /-- The phase of the /16 divider, 0 to 15. -/
  div : Nat
  /-- The latched address. -/
  addr : BitVec 4
  /-- The bus mode. -/
  mode : PsgMode
  /-- The value driven on DA in Read mode. -/
  daOut : Byte
  /-- The samples of the current frame, oldest first. -/
  samples : List Rat
  /-- The model's own: the index of the next free envelope level (R467). -/
  draws : Nat
  deriving DecidableEq, Repr

/-! ## The machine -/

/-- The wait state of CWAI and SYNC (spec/46_extension.md R390, R391). -/
inductive WaitState where
  | none
  | cwai
  | sync
  deriving DecidableEq, Repr

/-- Everything the spec gives the machine. -/
structure State where
  /-- Accumulator A (R30). -/
  a : Byte
  /-- Accumulator B (R30). D is the pair A:B (R31). -/
  b : Byte
  /-- Index register X (R30). -/
  x : Word
  /-- Index register Y (R30). -/
  y : Word
  /-- User stack pointer U (R30). -/
  u : Word
  /-- Hardware stack pointer S (R30). -/
  sp : Word
  /-- Program counter (R30, R34). -/
  pc : Word
  /-- Direct page (R30). -/
  dp : Byte
  /-- Condition codes (R35). -/
  cc : Byte
  /-- Cycles of the current step (R39). -/
  cyc : Nat
  /-- Address of the first byte of the current step's instruction (spec/60_exceptions.md R470, R480). -/
  pc0 : Word
  /-- The wait state (R39). -/
  wait : WaitState
  /-- The fault record, sticky (R39, spec/60_exceptions.md R411). -/
  fault : Option FaultRecord
  /-- The cycle budget left in the frame (R39, spec/60_exceptions.md R471). -/
  budget : Rat
  /-- The sampled button mask of controller 1 (spec/60_exceptions.md R469, R474). -/
  buttons : BitVec 4
  /-- The stored bytes: RAM, cartridge image and BIOS image (R40), or the flat RAM of spec/20_memory.md R69. -/
  mem : Memory
  /-- The VIA (R41). -/
  via : Via
  /-- The PSG (R42). -/
  psg : Psg
  /-- The parameters of spec/00_scope.md R6; no step changes them. -/
  cfg : Config
  deriving DecidableEq, Repr

/-- The VIA after reset (R43). -/
def Via.reset : Via where
  orb := 0
  ora := 0
  ddrb := 0
  ddra := 0
  t1c := 0
  t1lL := 0
  t1lH := 0
  t2c := 0
  t2lL := 0
  sr := 0
  acr := 0
  pcr := 0
  ifr := 0
  ier := 0
  t1Armed := false
  t2Armed := false
  t1Pb7 := true
  zeroActive := false
  posX := 0
  posY := 0
  vx := 0
  vy := 0
  offset := 0
  brightness := 0
  blank := false
  lines := []
  draws := 0

/-- A tone generator after reset (R43). -/
def Tone.reset : Tone := ⟨0, false⟩

/-- The PSG after reset (R43). -/
def Psg.reset : Psg where
  regs := Vector.replicate 16 0
  toneA := Tone.reset
  toneB := Tone.reset
  toneC := Tone.reset
  div := 0
  addr := 0
  mode := .inactive
  daOut := 0
  samples := []
  draws := 0

/-- The machine right after construction and `emulator.reset()` with no image loaded (R43,
spec/70_reset_and_hazards.md R500 to R503): every register 0 but CC = 0x50, and PC the vector at 0xFFFE,
which with no BIOS reads 0x0000 (R501). DESIGN CHOICE (log 5): the button mask is 0. -/
def State.reset : State where
  a := 0
  b := 0
  x := 0
  y := 0
  u := 0
  sp := 0
  pc := 0
  dp := 0
  cc := 0x50
  cyc := 0
  pc0 := 0
  wait := .none
  fault := none
  budget := 0
  buttons := 0
  mem := []
  via := Via.reset
  psg := Psg.reset
  cfg := Config.hardware

/-! ## How a step can stop -/

/-- The machine stops with a fatal fault (spec/60_exceptions.md R410, R411). -/
inductive Fault where
  /-- Raised by every fault of `FaultKind`, through `Sys2Proof.Machine.stop`, and answered again by a step of
  a machine whose fault record is set (R411). `left` is the faulted state: the record is set and the
  partial effects of the faulting step stay (R417, R418). Safe: the spec's machine stops here too. -/
  | fatal (rec : FaultRecord) (left : State)
  deriving DecidableEq, Repr

/-- An instruction without a meaning in this model. -/
inductive Refusal where
  /-- Raised by an arm of `exec` whose instruction is not modelled. Safe: nothing is claimed of it. No arm of
  this model answers it. -/
  | notModelled (mnemonic : String)
  deriving DecidableEq, Repr

end Sys2Proof.Machine
end

