-- ==== Sys2Proof/Machine/Registers.lean ====
section
/-!
DEFINITION. Reading and writing the registers by name (spec/00_scope.md R9), D as the pair A:B
(spec/10_state.md R31), and the one-field updates of State.
-/
namespace Sys2Proof.Machine

/-- D, synthesised as A:B (R31). -/
def State.d (s : State) : Word := joinBytes s.a s.b

/-- The 8-bit register `r` (R9). -/
def State.get8 (s : State) : Reg8 → Byte
  | .a => s.a
  | .b => s.b
  | .cc => s.cc
  | .dp => s.dp

/-- The 16-bit register `r` (R9). -/
def State.get16 (s : State) : Reg16 → Word
  | .d => s.d
  | .x => s.x
  | .y => s.y
  | .u => s.u
  | .s => s.sp
  | .pc => s.pc

/-- `r <- v` for an 8-bit register (R9). -/
def State.set8 (s : State) (r : Reg8) (v : Byte) : State :=
  match r with
  | .a => { s with a := v }
  | .b => { s with b := v }
  | .cc => { s with cc := v }
  | .dp => { s with dp := v }

/-- `r <- v` for a 16-bit register; a write of D writes A and B (R31). -/
def State.set16 (s : State) (r : Reg16) (v : Word) : State :=
  match r with
  | .d => { s with a := hiByte v, b := loByte v }
  | .x => { s with x := v }
  | .y => { s with y := v }
  | .u => { s with u := v }
  | .s => { s with sp := v }
  | .pc => { s with pc := v }

/-- The register an index register field names (spec/30_encoding.md R122). -/
def idxReg16 : IdxReg → Reg16
  | .x => .x
  | .y => .y
  | .u => .u
  | .s => .s

/-- The register of a stack pointer. -/
def stkReg : Stk → Reg16
  | .s => .s
  | .u => .u

/-- The other stack pointer: U for S, S for U (spec/45_stack_transfer.md R345). -/
def otherStk : Stk → Reg16
  | .s => .u
  | .u => .s

/-- The state with CC. -/
def State.withCC (s : State) (v : Byte) : State := { s with cc := v }

/-- The state with PC (`PC <- target`, R9). -/
def State.withPC (s : State) (v : Word) : State := { s with pc := v }

/-- The state with the step's cycle count. -/
def State.withCyc (s : State) (n : Nat) : State := { s with cyc := n }

/-- The state with the address of the step's instruction. -/
def State.withPc0 (s : State) (v : Word) : State := { s with pc0 := v }

/-- The state with the wait state. -/
def State.withWait (s : State) (w : WaitState) : State := { s with wait := w }

/-- The state with the fault record. -/
def State.withFault (s : State) (f : Option FaultRecord) : State := { s with fault := f }

/-- The state with the frame's budget. -/
def State.withBudget (s : State) (q : Rat) : State := { s with budget := q }

/-- The state with the button mask. -/
def State.withButtons (s : State) (m : BitVec 4) : State := { s with buttons := m }

/-- The state with the stored bytes. -/
def State.withMem (s : State) (m : Memory) : State := { s with mem := m }

/-- The state with the VIA. -/
def State.withVia (s : State) (v : Via) : State := { s with via := v }

/-- The state with the PSG. -/
def State.withPsg (s : State) (p : Psg) : State := { s with psg := p }

end Sys2Proof.Machine
end

