-- ==== Sys2Proof/Machine/Run.lean ====
section
/-!
DEFINITION. The form of a meaning: a computation on State that ends with a value and a state or with a
fatal fault and the state as the fault left it (spec/00_scope.md R13, spec/60_exceptions.md R410 to R418).
-/
namespace Sys2Proof.Machine

/-- A computation of the machine: `.ok a t`, or `.error k t` when it raises the fault `k`. The state `t`
keeps every effect made before the fault (R417, R418). -/
abbrev M := EStateM FaultKind State

/-- `raise Fault(kind, info)` (R13). -/
def raise {α : Type} (k : FaultKind) : M α := fun s => .error k s

/-- The outcome of a raised fault (R480): the record is `(kind, info, pc0)`, and the state it leaves holds
that record (R411). -/
def stop (k : FaultKind) (s : State) : Host.Outcome State Fault Refusal :=
  .fault (.fatal ⟨k, s.pc0⟩ (s.withFault (some ⟨k, s.pc0⟩)))

/-- The outcome of a computation. -/
def finish (m : M Unit) (s : State) : Host.Outcome State Fault Refusal :=
  match m s with
  | .ok _ t => .next t
  | .error k t => stop k t

end Sys2Proof.Machine
end

