-- ==== Sys2Proof/Machine/Psg.lean ====
section
/-!
DEFINITION. The AY-3-8912 PSG (spec/60_exceptions.md R460 to R469): register file, bus protocol, tone
generators, divider, mixer and samples.
-/
namespace Sys2Proof.Machine

/-- `R[a]` (R460). -/
def Psg.reg (p : Psg) (a : BitVec 4) : Byte := p.regs.get ⟨a.toNat, a.isLt⟩

/-- `R[a] <- v`. -/
def Psg.setReg (p : Psg) (a : BitVec 4) (v : Byte) : Psg :=
  { p with regs := p.regs.set a.toNat v a.isLt }

/-- The write mask of a register (R460, D28). -/
def psgMask (a : BitVec 4) : Byte :=
  match a.toNat with
  | 1 | 3 | 5 | 13 => 0x0F
  | 6 | 8 | 9 | 10 => 0x1F
  | _ => 0xFF

/-- The byte of the controller buttons (R469): button k on bit k, a pressed button reading 0, bits 4 to 7
reading 1. -/
def buttonByte (buttons : BitVec 4) : Byte := 0xF#4 ++ ~~~buttons

/-- `PsgReadValue(a)` (R463): register 14 reads the buttons. -/
def psgReadValue (p : Psg) (buttons : BitVec 4) (a : BitVec 4) : Byte :=
  if a = 14 then buttonByte buttons else p.reg a

/-- The mode of the pins BDIR and BC1 (R461). -/
def psgModeOf (bdir bc1 : Bool) : PsgMode :=
  match bdir, bc1 with
  | false, false => .inactive
  | false, true => .read
  | true, false => .write
  | true, true => .latchAddress

/-- The action of entering a mode (R462). -/
def psgEnter (m : PsgMode) (da : Byte) (buttons : BitVec 4) (p : Psg) : Psg :=
  match m with
  | .inactive => { p with mode := .inactive }
  | .latchAddress => { p with mode := .latchAddress, addr := lowNibble da }
  | .write => { p.setReg p.addr (da &&& psgMask p.addr) with mode := .write }
  | .read => { p with mode := .read, daOut := psgReadValue p buttons p.addr }

/-- `PsgBus(bdir, bc1, da)` (R462, R489): staying in a mode does nothing, any change performs the new mode's
action. -/
def psgBus (bdir bc1 : Bool) (da : Byte) (buttons : BitVec 4) (p : Psg) : Psg :=
  if psgModeOf bdir bc1 = p.mode then p else psgEnter (psgModeOf bdir bc1) da buttons p

/-- The 12-bit period of a channel: its high register's bits 3 to 0, then its low register (R464). -/
def tonePeriod (low high : Byte) : BitVec 12 := lowNibble high ++ low

/-- `ToneTick` with period `period` (R464, R490). -/
def toneTick (period : BitVec 12) (t : Tone) : Tone :=
  if t.cnt.toNat ≤ 1 then { cnt := period, out := !t.out } else { t with cnt := t.cnt - 1 }

/-- FREE VALUE. The level of a channel in envelope mode at the n-th draw: any value in [0, 1] (R467, D30). -/
def envLevel (n : Nat) : Rat := max 0 (min 1 (Config.envDraw n))

/-- A channel's amplitude: `R[8+i][3:0] / 16`, or the free level in envelope mode (R467). -/
def amplitude (amp : Byte) (n : Nat) : Rat :=
  if amp.getLsbD 4 then envLevel n else ((lowNibble amp).toNat : Rat) / 16

/-- A channel's term of a sample: its output where its mixer bit is 0, times its amplitude (R466, R468). -/
def channelTerm (mixerBit out : Bool) (amp : Byte) (n : Nat) : Rat :=
  if !mixerBit && out then amplitude amp n else 0

/-- `Sample()` (R468). Each channel has its own free level. -/
def psgSample (p : Psg) : Rat :=
  (channelTerm ((p.reg 7).getLsbD 0) p.toneA.out (p.reg 8) p.draws
    + channelTerm ((p.reg 7).getLsbD 1) p.toneB.out (p.reg 9) (p.draws + 1)
    + channelTerm ((p.reg 7).getLsbD 2) p.toneC.out (p.reg 10) (p.draws + 2)) / 3 / 6

/-- The three tone generators of a tick (R464, R465). -/
def psgTones (p : Psg) : Psg :=
  { p with
    toneA := toneTick (tonePeriod (p.reg 0) (p.reg 1)) p.toneA
    toneB := toneTick (tonePeriod (p.reg 2) (p.reg 3)) p.toneB
    toneC := toneTick (tonePeriod (p.reg 4) (p.reg 5)) p.toneC }

/-- A tick of the divider (R465, R491): the generators, then one sample. -/
def psgTick (p : Psg) : Psg :=
  { psgTones p with
    samples := p.samples ++ [psgSample (psgTones p)]
    draws := p.draws + 3 }

/-- One input clock (R465). -/
def psgClock (p : Psg) : Psg :=
  if p.div + 1 = 16 then psgTick { p with div := 0 } else { p with div := p.div + 1 }

/-- `PsgUpdate(n)` (R465). -/
def psgUpdate : Nat → Psg → Psg
  | 0, p => p
  | n + 1, p => psgUpdate n (psgClock p)

end Sys2Proof.Machine
end

