-- ==== Sys2Proof/Machine/Via.lean ====
section
/-!
DEFINITION. The VIA 6522 and the beam integrator (spec/60_exceptions.md R440 to R456, R483 to R487), and the
IRQ line (R430).
-/
namespace Sys2Proof.Machine

/-- The registers of the VIA map (R440). -/
inductive ViaReg where
  | portB
  | portA
  | ddrb
  | ddra
  | t1CounterLow
  | t1CounterHigh
  | t1LatchLow
  | t1LatchHigh
  | t2Low
  | t2High
  | shift
  | auxControl
  | peripheralControl
  | interruptFlag
  | interruptEnable
  /-- Index 15, which the map does not list. -/
  | unlisted
  deriving DecidableEq, Repr

/-- The register an address of the VIA page selects: `addr & 0xF` (R440, spec/20_memory.md R67). -/
def viaReg (addr : Word) : ViaReg :=
  match (addr.extractLsb' 0 4).toNat with
  | 0 => .portB
  | 1 => .portA
  | 2 => .ddrb
  | 3 => .ddra
  | 4 => .t1CounterLow
  | 5 => .t1CounterHigh
  | 6 => .t1LatchLow
  | 7 => .t1LatchHigh
  | 8 => .t2Low
  | 9 => .t2High
  | 10 => .shift
  | 11 => .auxControl
  | 12 => .peripheralControl
  | 13 => .interruptFlag
  | 14 => .interruptEnable
  | _ => .unlisted

/-- IFR bit 6, Timer1 (R431). -/
def ifrT1 : BitVec 7 := 0x40

/-- IFR bit 5, Timer2 (R431). -/
def ifrT2 : BitVec 7 := 0x20

/-- `(IFR & IER & 0x7F) != 0` (R430). -/
def Via.irq (v : Via) : Bool := v.ifr &&& v.ier != 0

/-- A port read: the output register on output pins, the input on input pins (R455). -/
def portPins (out ddr input : Byte) : Byte := (out &&& ddr) ||| (input &&& ~~~ddr)

/-- The VIA after one free value of its pins is drawn. -/
def Via.drawn (v : Via) : Via := { v with draws := v.draws + 1 }

/-- `PortAInput()` (R455): the PSG's `da_out` in Read mode, else a free value. -/
def portAInput (s : State) : Byte :=
  if s.psg.mode = .read then s.psg.daOut else Config.paFloat s.via.draws

/-- The state after a read of Port A: a free value is used up where the PSG does not drive the port (R455). -/
def portARead (s : State) : State :=
  if s.psg.mode = .read then s else s.withVia s.via.drawn

/-- `ViaRead(addr)` (R441). -/
def viaRead (addr : Word) : M Byte := fun s =>
  match viaReg addr with
  | .portB =>
    .ok (portPins s.via.orb s.via.ddrb (Config.pbInput s.via.draws)) (s.withVia s.via.drawn)
  | .portA => .ok (portPins s.via.ora s.via.ddra (portAInput s)) (portARead s)
  | .ddrb => .ok s.via.ddrb s
  | .ddra => .ok s.via.ddra s
  | .t1CounterLow =>
    .ok (loByte s.via.t1c) (s.withVia { s.via with ifr := s.via.ifr &&& ~~~ifrT1 })
  | .t1CounterHigh => .ok (hiByte s.via.t1c) s
  | .t1LatchLow => .ok s.via.t1lL s
  | .t1LatchHigh => .ok s.via.t1lH s
  | .t2Low => .ok (loByte s.via.t2c) (s.withVia { s.via with ifr := s.via.ifr &&& ~~~ifrT2 })
  | .t2High => .ok (hiByte s.via.t2c) s
  | .shift => .ok s.via.sr s
  | .auxControl => .ok s.via.acr s
  | .peripheralControl => .ok s.via.pcr s
  | .interruptFlag => .ok (BitVec.ofBool s.via.irq ++ s.via.ifr) s
  | .interruptEnable => .ok (1#1 ++ s.via.ier) s
  | .unlisted => .error (.unmodelledViaRegister addr) s

/-- `RouteDac()` (R443): Port A to the channel that Port B bits 2-1 select, or to the X velocity where bit 0
disables the MUX. -/
def Via.routeDac (v : Via) : Via :=
  if v.orb.getLsbD 0 then { v with vx := v.ora }
  else
    match v.orb.getLsbD 2, v.orb.getLsbD 1 with
    | false, false => { v with vy := v.ora }
    | false, true => { v with offset := v.ora }
    | true, false => { v with brightness := v.ora }
    | true, true => v

/-- A write of Port A: ORA, then the DAC (R442, R443, R484). -/
def Via.writePortA (v : Via) (x : Byte) : Via := Via.routeDac { v with ora := x }

/-- A write of Port B, the VIA's part: ORB, then the DAC (R442, R444). -/
def Via.writePortB (v : Via) (x : Byte) : Via := Via.routeDac { v with orb := x }

/-- A write of Port B: the VIA's part, then the PSG's bus lines from ORB bits 4 and 3 and ORA (R444, R461). -/
def writePortB (x : Byte) (s : State) : State :=
  (s.withVia (s.via.writePortB x)).withPsg
    (psgBus (x.getLsbD 4) (x.getLsbD 3) s.via.ora s.buttons s.psg)

/-- A write of register 5: the latch, then Timer1 loaded and started (R442). -/
def Via.startTimer1 (v : Via) (x : Byte) : Via :=
  { v with
    t1lH := x
    t1c := joinBytes x v.t1lL
    ifr := v.ifr &&& ~~~ifrT1
    t1Armed := true
    t1Pb7 := false }

/-- A write of register 9: Timer2 loaded and started (R442, R448). -/
def Via.startTimer2 (v : Via) (x : Byte) : Via :=
  { v with
    t2c := joinBytes x v.t2lL
    ifr := v.ifr &&& ~~~ifrT2
    t2Armed := true }

/-- The ACR values the hardware supports: bits 6-5 = 00 (R449). -/
def acrSupported (x : Byte) : Bool := x &&& 0x60 == 0

/-- CA2, PCR bits 3 to 1 (R450). -/
def ca2 (x : Byte) : BitVec 3 := x.extractLsb' 1 3

/-- CB2, PCR bits 7 to 5 (R450). -/
def cb2 (x : Byte) : BitVec 3 := x.extractLsb' 5 3

/-- The PCR values the hardware supports: CA2 and CB2 each 110 or 111 (R450). -/
def pcrSupported (x : Byte) : Bool :=
  (ca2 x == 0b110 || ca2 x == 0b111) && (cb2 x == 0b110 || cb2 x == 0b111)

/-- The effect of a supported PCR write (R450, R485, R509): /ZERO at once clears the position and the line
buffer, CB2 sets or clears blank. -/
def Via.writePcr (v : Via) (x : Byte) : Via :=
  let v' := { v with pcr := x, zeroActive := ca2 x == 0b110, blank := cb2 x == 0b110 }
  if ca2 x = 0b110 then { v' with posX := 0, posY := 0, lines := [] } else v'

/-- The IFR a 6522 would hold after a write of register 13: a 1 clears that flag (R451). -/
def ifrAfter (ifr : BitVec 7) (x : Byte) : BitVec 7 := ifr &&& ~~~(x.extractLsb' 0 7)

/-- The IER a 6522 would hold after a write of register 14: bit 7 sets or clears the 1-bits (R451). -/
def ierAfter (ier : BitVec 7) (x : Byte) : BitVec 7 :=
  if x.getLsbD 7 then ier ||| x.extractLsb' 0 7 else ier &&& ~~~(x.extractLsb' 0 7)

/-- `IfrWrite(v)` (R451, R486). -/
def ifrWrite (x : Byte) : M Unit := fun s =>
  match s.cfg.viaFlagWrites with
  | .ignore => .ok () s
  | .strict =>
    if ifrAfter s.via.ifr x = s.via.ifr then .ok () s else .error (.unmodelledViaWrite 13 x) s
  | .mc6522 => .ok () (s.withVia { s.via with ifr := ifrAfter s.via.ifr x })

/-- `IerWrite(v)` (R451, R486). -/
def ierWrite (x : Byte) : M Unit := fun s =>
  match s.cfg.viaFlagWrites with
  | .ignore => .ok () s
  | .strict =>
    if ierAfter s.via.ier x = s.via.ier then .ok () s else .error (.unmodelledViaWrite 14 x) s
  | .mc6522 => .ok () (s.withVia { s.via with ier := ierAfter s.via.ier x })

/-- `ViaWrite(addr, v)` (R442). -/
def viaWrite (addr : Word) (x : Byte) : M Unit := fun s =>
  match viaReg addr with
  | .portB => .ok () (writePortB x s)
  | .portA => .ok () (s.withVia (s.via.writePortA x))
  | .ddrb => .ok () (s.withVia { s.via with ddrb := x })
  | .ddra => .ok () (s.withVia { s.via with ddra := x })
  | .t1CounterLow => .ok () (s.withVia { s.via with t1lL := x })
  | .t1CounterHigh => .ok () (s.withVia (s.via.startTimer1 x))
  | .t1LatchLow => .ok () (s.withVia { s.via with t1lL := x })
  | .t1LatchHigh => .ok () (s.withVia { s.via with t1lH := x, ifr := s.via.ifr &&& ~~~ifrT1 })
  | .t2Low => .ok () (s.withVia { s.via with t2lL := x })
  | .t2High => .ok () (s.withVia (s.via.startTimer2 x))
  | .shift => .ok () (s.withVia { s.via with sr := x })
  | .auxControl =>
    if acrSupported x then .ok () (s.withVia { s.via with acr := x })
    else .error (.unsupportedViaAcr x) s
  | .peripheralControl =>
    if pcrSupported x then .ok () (s.withVia (s.via.writePcr x))
    else .error (.unsupportedViaPcr x) s
  | .interruptFlag => ifrWrite x s
  | .interruptEnable => ierWrite x s
  | .unlisted => .error (.unmodelledViaRegister addr) s

/-! ## The update after an instruction -/

/-- Timer1 over `n` cycles (R446): it expires when armed and `n` is above the counter, once for each start;
the counter runs on whether armed or not. -/
def Via.timer1 (n : Nat) (v : Via) : Via :=
  let v' := { v with t1c := v.t1c - BitVec.ofNat 16 n }
  if v.t1Armed && decide (v.t1c.toNat < n) then
    { v' with ifr := v.ifr ||| ifrT1, t1Armed := false, t1Pb7 := true }
  else v'

/-- Timer2 over `n` cycles (R448). -/
def Via.timer2 (n : Nat) (v : Via) : Via :=
  let v' := { v with t2c := v.t2c - BitVec.ofNat 16 n }
  if v.t2Armed && decide (v.t2c.toNat < n) then { v' with ifr := v.ifr ||| ifrT2, t2Armed := false }
  else v'

/-- The /RAMP line is active, that is 0: Port B bit 7, or Timer1's output where ACR bit 7 selects it (R452). -/
def Via.rampOn (v : Via) : Bool :=
  !(if v.acr.getLsbD 7 then v.t1Pb7 else v.orb.getLsbD 7)

/-- `velocity - 128 - offset` on unsigned bytes (R453, R487). -/
def beamRate (vel off : Byte) : Int := (vel.toNat : Int) - 128 - (off.toNat : Int)

/-- Where the beam ends after `n` cycles of integration with gain `k` (R453). -/
def Via.moved (k : Rat) (n : Nat) (v : Via) : Point where
  x := v.posX + k * (beamRate v.vx v.offset : Rat) * (n : Rat)
  y := v.posY + k * (beamRate v.vy v.offset : Rat) * (n : Rat)

/-- A moving beam draws: it is not blanked and its brightness is above 0, the literal condition of R453 (D25).
DESIGN CHOICE (log 22): R505 says that no line is drawn until PCR is written, which R453 does not ask; the model
follows R453. -/
def Via.lit (v : Via) : Bool := !v.blank && decide (0 < v.brightness.toNat)

/-- `IntegratorUpdate(n, ramp_on)` with gain `k` (R453, R454, R487). -/
def Via.integrate (k : Rat) (n : Nat) (rampOn : Bool) (v : Via) : Via :=
  if v.zeroActive then { v with posX := 0, posY := 0 }
  else if rampOn then
    let dest := v.moved k n
    let v' := { v with posX := dest.x, posY := dest.y }
    if v.lit then
      { v' with lines := v.lines ++ [⟨⟨v.posX, v.posY⟩, dest, v.brightness⟩] }
    else v'
  else v

/-- `ViaUpdate(n)` (R452): the ramp is sampled first, then the timers run, then the integrator. -/
def Via.update (k : Rat) (n : Nat) (v : Via) : Via :=
  Via.integrate k n v.rampOn ((v.timer1 n).timer2 n)

/-- The IRQ line at the CPU (R430, R431). Under the flat bus there is no VIA (spec/20_memory.md R69). -/
def State.irqLine (s : State) : Bool := decide (s.cfg.bus = .vectrex) && s.via.irq

end Sys2Proof.Machine
end

