-- ==== Sys2Proof/Machine/Ops.lean ====
section
/-!
DEFINITION. The named operations every meaning is made of: the bus (spec/20_memory.md R60 to R74), fetch,
stack (spec/00_scope.md R10 to R12), register lists (spec/45_stack_transfer.md R345), taking an exception
and returning from one (spec/46_extension.md R385 to R389, spec/60_exceptions.md R433), the cycle count
(R14), and reset (spec/70_reset_and_hazards.md R500, R501).
-/
namespace Sys2Proof.Machine

/-! ## The bus -/

/-- The regions of the address space (spec/20_memory.md R63, R69). -/
inductive Region where
  | cartridge
  | ram
  | via
  | bios
  | unmapped
  | flat
  deriving DecidableEq, Repr

/-- The region an address lies in (R63, R69). -/
def region (bus : BusConfig) (a : Word) : Region :=
  match bus with
  | .flatTest => .flat
  | .vectrex =>
    if a.toNat < 0x8000 then .cartridge
    else if a.toNat < 0xC800 then .unmapped
    else if a.toNat < 0xD000 then .ram
    else if a.toNat < 0xD800 then .via
    else if a.toNat < 0xE000 then .unmapped
    else .bios

/-- Where the byte at an address is stored: RAM is mirrored by the low ten bits (R66), everything else stands
at its own address. -/
def cellKey (bus : BusConfig) (a : Word) : Nat :=
  match region bus a with
  | .ram => 0xC800 + a.toNat % 0x400
  | _ => a.toNat

/-- The byte of memory at an address, without any access: `none` in the VIA's range, where no byte of memory
stands (R64 to R69). -/
def State.peek (s : State) (a : Word) : Option Byte :=
  match region s.cfg.bus a with
  | .via => none
  | .unmapped => some s.cfg.unmappedReadValue
  | _ => some (s.mem.get (cellKey s.cfg.bus a))

/-- `Read8(addr)` (R61, R64 to R69). -/
def read8 (a : Word) : M Byte := fun s =>
  match s.peek a with
  | some v => .ok v s
  | none => viaRead a s

/-- The stores to an address reach a byte of memory (R66, R69); ROM and unmapped addresses discard them. -/
def storable (bus : BusConfig) (a : Word) : Bool :=
  match region bus a with
  | .ram | .flat => true
  | _ => false

/-- `Write8(addr, v)` (R62, R64 to R69). -/
def write8 (a : Word) (v : Byte) : M Unit := fun s =>
  match region s.cfg.bus a with
  | .ram | .flat => .ok () (s.withMem (s.mem.put (cellKey s.cfg.bus a) v))
  | .via => viaWrite a v s
  | .cartridge | .bios | .unmapped => .ok () s

/-- `MemRead(addr, 2)` (spec/00_scope.md R10, spec/20_memory.md R70, R71): the high byte at `a` first, then
the low byte at `a + 1` modulo 2^16. -/
def read16 (a : Word) : M Word := do
  let h ← read8 a
  let l ← read8 (a + 1)
  pure (joinBytes h l)

/-- `MemWrite(addr, 2, v)` (R10): the high byte at `a` first, then the low byte at `a + 1` modulo 2^16. -/
def write16 (a : Word) (v : Word) : M Unit := do
  write8 a (hiByte v)
  write8 (a + 1) (loByte v)

/-! ## Fetch -/

/-- `FetchPC8()` (R11, spec/10_state.md R34). -/
def fetch8 : M Byte := do
  let s ← get
  let v ← read8 s.pc
  modify fun t => t.withPC (t.pc + 1)
  pure v

/-- `FetchPC16()` (R11). -/
def fetch16 : M Word := do
  let h ← fetch8
  let l ← fetch8
  pure (joinBytes h l)

/-! ## Cycles -/

/-- `cyc <- cyc + n` (R14). -/
def addCyc (n : Nat) : M Unit := modify fun s => s.withCyc (s.cyc + n)

/-! ## Stack -/

/-- `Push8(SP, v)` (R12): decrement, then store. -/
def push8 (p : Stk) (v : Byte) : M Unit := do
  modify fun s => s.set16 (stkReg p) (s.get16 (stkReg p) - 1)
  let s ← get
  write8 (s.get16 (stkReg p)) v

/-- `Push16(SP, v)` (R12): the low byte first, so that the word is big-endian at the new SP. -/
def push16 (p : Stk) (v : Word) : M Unit := do
  push8 p (loByte v)
  push8 p (hiByte v)

/-- `Pull8(SP)` (R12): load, then increment. -/
def pull8 (p : Stk) : M Byte := do
  let s ← get
  let v ← read8 (s.get16 (stkReg p))
  modify fun t => t.set16 (stkReg p) (t.get16 (stkReg p) + 1)
  pure v

/-- `Pull16(SP)` (R12): the high byte first. -/
def pull16 (p : Stk) : M Word := do
  let h ← pull8 p
  let l ← pull8 p
  pure (joinBytes h l)

/-! ## Register lists (spec/45_stack_transfer.md R345) -/

/-- `if m[k]: Push8(SP, r)`. -/
def pushIf8 (p : Stk) (sel : Bool) (r : Reg8) : M Unit :=
  if sel then do
    let s ← get
    push8 p (s.get8 r)
  else pure ()

/-- `if m[k]: Push16(SP, r)`. -/
def pushIf16 (p : Stk) (sel : Bool) (r : Reg16) : M Unit :=
  if sel then do
    let s ← get
    push16 p (s.get16 r)
  else pure ()

/-- `if m[k]: r <- Pull8(SP)`. -/
def pullIf8 (p : Stk) (sel : Bool) (r : Reg8) : M Unit :=
  if sel then do
    let v ← pull8 p
    modify fun s => s.set8 r v
  else pure ()

/-- `if m[k]: r <- Pull16(SP)`. -/
def pullIf16 (p : Stk) (sel : Bool) (r : Reg16) : M Unit :=
  if sel then do
    let v ← pull16 p
    modify fun s => s.set16 r v
  else pure ()

/-- `PushList(SP, OTHER, m)` (R345): bit 7 down to bit 0. -/
def pushList (p : Stk) (m : Byte) : M Unit := do
  pushIf16 p (m.getLsbD 7) .pc
  pushIf16 p (m.getLsbD 6) (otherStk p)
  pushIf16 p (m.getLsbD 5) .y
  pushIf16 p (m.getLsbD 4) .x
  pushIf8 p (m.getLsbD 3) .dp
  pushIf8 p (m.getLsbD 2) .b
  pushIf8 p (m.getLsbD 1) .a
  pushIf8 p (m.getLsbD 0) .cc

/-- `PullList(SP, OTHER, m)` (R345): bit 0 up to bit 7. -/
def pullList (p : Stk) (m : Byte) : M Unit := do
  pullIf8 p (m.getLsbD 0) .cc
  pullIf8 p (m.getLsbD 1) .a
  pullIf8 p (m.getLsbD 2) .b
  pullIf8 p (m.getLsbD 3) .dp
  pullIf16 p (m.getLsbD 4) .x
  pullIf16 p (m.getLsbD 5) .y
  pullIf16 p (m.getLsbD 6) (otherStk p)
  pullIf16 p (m.getLsbD 7) .pc

/-- The number of 8-bit registers a list selects. -/
def listCount8 (m : Byte) : Nat :=
  (m.getLsbD 0).toNat + (m.getLsbD 1).toNat + (m.getLsbD 2).toNat + (m.getLsbD 3).toNat

/-- The number of 16-bit registers a list selects. -/
def listCount16 (m : Byte) : Nat :=
  (m.getLsbD 4).toNat + (m.getLsbD 5).toNat + (m.getLsbD 6).toNat + (m.getLsbD 7).toNat

/-- The cycles of a register list (R345, D12): one a register, or one a byte. -/
def listCycles (rule : PushPullCycles) (m : Byte) : Nat :=
  match rule with
  | .perRegister => listCount8 m + listCount16 m
  | .perByte => listCount8 m + 2 * listCount16 m

/-! ## Taking an exception and returning from one -/

/-- `PushEntire()` (spec/46_extension.md R385): E is set, then PC, U, Y, X, DP, B, A and CC go on S. -/
def pushEntire : M Unit := do
  modify fun s => s.withCC (putFlag .e true s.cc)
  pushList .s 0xFF

/-- Control goes to the handler whose address stands at `vector` (spec/20_memory.md R76), after the bits of
`mask` are set in CC. -/
def enterHandler (mask : Byte) (vector : Word) : M Unit := do
  modify fun s => s.withCC (s.cc ||| mask)
  let target ← read16 vector
  modify fun s => s.withPC target

/-- Taking an exception: the whole register set is saved on S, the mask bits are set and control goes through
the vector (spec/46_extension.md R386 to R388, spec/60_exceptions.md R433, R482). -/
def takeException (mask : Byte) (vector : Word) : M Unit := do
  pushEntire
  enterHandler mask vector

/-- The I bit of CC. -/
def maskI : Byte := 0x10

/-- The I and F bits of CC. -/
def maskIF : Byte := 0x50

/-- The SWI3 vector (spec/20_memory.md R76). -/
def vectorSwi3 : Word := 0xFFF2
/-- The SWI2 vector (R76). -/
def vectorSwi2 : Word := 0xFFF4
/-- The IRQ vector (R76). -/
def vectorIrq : Word := 0xFFF8
/-- The SWI vector (R76). -/
def vectorSwi : Word := 0xFFFA
/-- The reset vector (R75, R76). -/
def vectorReset : Word := 0xFFFE

/-- `IrqEntry()` (spec/60_exceptions.md R433): from the CWAI wait the frame is already on the stack. -/
def irqEntry : M Unit := do
  let s ← get
  if s.wait = .cwai then do
    modify fun t => (t.withWait .none).withCyc 1
    enterHandler maskI vectorIrq
  else do
    pushEntire
    modify fun t => t.withCyc 19
    enterHandler maskI vectorIrq

/-- Return from an exception (spec/46_extension.md R389): CC first; its E decides whether the whole register
set or only PC stands on S. -/
def returnFromException : M Unit := do
  pullIf8 .s true .cc
  let s ← get
  if flag .e s.cc then do
    pullIf8 .s true .a
    pullIf8 .s true .b
    pullIf8 .s true .dp
    pullIf16 .s true .x
    pullIf16 .s true .y
    pullIf16 .s true .u
    addCyc 9
    pullIf16 .s true .pc
  else pullIf16 .s true .pc

/-! ## The form of an instruction's meaning -/

/-- The meaning of an instruction of the base set: the cycle count starts from its base (R14), then its body. -/
def perform (i : Instr) (body : M Unit) (s : State) : Host.Outcome State Fault Refusal :=
  finish body (s.withCyc (baseCycles s.cfg i))

/-- Whether the configuration executes a tier (spec/46_extension.md R370). -/
def tierAllowed (c : Config) : Tier → Bool
  | .base => true
  | .extension => c.extendedSet
  | .waiting => c.extendedSet && decide (c.interruptModel = .mc6809)

/-- The gate of the extension set: the body, or `UnimplementedOpcode` where the configuration does not execute
the tier (R370). -/
def gated (t : Tier) (i : Instr) (body : M Unit) : M Unit := fun s =>
  if tierAllowed s.cfg t then body s
  else .error (.unimplementedOpcode (opcodeOf i).1 (opcodeOf i).2) s

/-- The meaning of an instruction of the extension set. -/
def performGated (t : Tier) (i : Instr) (body : M Unit) (s : State) :
    Host.Outcome State Fault Refusal :=
  finish (gated t i body) (s.withCyc (baseCycles s.cfg i))

/-! ## Reset -/

/-- The stored bytes after a reset: RAM is zeroed, the images are kept (spec/10_state.md R43,
spec/70_reset_and_hazards.md R500); the flat bus is all RAM (spec/20_memory.md R69). -/
def resetMem (bus : BusConfig) (m : Memory) : Memory :=
  match bus with
  | .vectrex => m.clear 0xC800 0x800
  | .flatTest => []

/-- `Reset(initialPC)` (R500): every item of R43 at its value, then PC. The images, the parameters and the
button mask stay, and the indices of the free values go on. -/
def resetTo (pc : Word) (s : State) : State :=
  { State.reset with
    pc := pc
    buttons := s.buttons
    mem := resetMem s.cfg.bus s.mem
    via := { Via.reset with draws := s.via.draws }
    psg := { Psg.reset with draws := s.psg.draws }
    cfg := s.cfg }

/-- The vector `emulator.reset()` reads, from the images as they stand, with no side effect (R501). -/
def resetVector (s : State) : Word :=
  joinBytes (s.mem.get (cellKey s.cfg.bus vectorReset))
    (s.mem.get (cellKey s.cfg.bus (vectorReset + 1)))

/-- `emulator.reset()` (R501). -/
def emulatorReset (s : State) : State := resetTo (resetVector s) s

/-- Construction, before the first reset (R503, D44): everything 0, false, empty or none, no image loaded. -/
def powerOn (cfg : Config) : State :=
  { State.reset with cc := 0, cfg := cfg, via := { Via.reset with t1Pb7 := false } }

end Sys2Proof.Machine
end

