-- ==== Sys2Proof/Machine/Operands.lean ====
section
/-!
DEFINITION. Effective addresses and operand access (spec/40_addressing.md R140 to R151), and the shapes of
instructions that share them.
-/
namespace Sys2Proof.Machine

/-! ## Effective addresses -/

/-- `EA <- x[r] + n; cyc <- cyc + c` (R145). -/
def indexedAt (r : IdxReg) (n : Word) (c : Nat) : M Word := do
  let s ← get
  addCyc c
  pure (s.get16 (idxReg16 r) + n)

/-- `EA <- x[r]; x[r] <- x[r] + n; cyc <- cyc + c` (R145). -/
def postIncrement (r : IdxReg) (n : Word) (c : Nat) : M Word := do
  let s ← get
  modify fun t => t.set16 (idxReg16 r) (t.get16 (idxReg16 r) + n)
  addCyc c
  pure (s.get16 (idxReg16 r))

/-- `x[r] <- x[r] - n; EA <- x[r]; cyc <- cyc + c` (R145). -/
def preDecrement (r : IdxReg) (n : Word) (c : Nat) : M Word := do
  modify fun t => t.set16 (idxReg16 r) (t.get16 (idxReg16 r) - n)
  addCyc c
  let s ← get
  pure (s.get16 (idxReg16 r))

/-- `EA <- PC + n; cyc <- cyc + c`, PC being the address after the instruction (R144, R145). -/
def pcRelative (n : Word) (c : Nat) : M Word := do
  let s ← get
  addCyc c
  pure (s.pc + n)

/-- `if ind == 1: EA <- MemRead(EA, 2); cyc <- cyc + 3` (R142). -/
def indirect (ind : Bool) (ea : Word) : M Word :=
  if ind then do
    let v ← read16 ea
    addCyc 3
    pure v
  else pure ea

/-- `ReadIndexedEA()` after its bytes are fetched (R145). -/
def indexedEa (i : Idx) : M Word :=
  match i with
  | .off5 r n => indexedAt r (sext5 n) 1
  | .inc1 r => postIncrement r 1 2
  | .inc2 r ind => do
    let ea ← postIncrement r 2 3
    indirect ind ea
  | .dec1 r => preDecrement r 1 2
  | .dec2 r ind => do
    let ea ← preDecrement r 2 3
    indirect ind ea
  | .zero r ind => do
    let ea ← indexedAt r 0 0
    indirect ind ea
  | .accB r ind => do
    let s ← get
    let ea ← indexedAt r (sext8 s.b) 1
    indirect ind ea
  | .accA r ind => do
    let s ← get
    let ea ← indexedAt r (sext8 s.a) 1
    indirect ind ea
  | .off8 r n ind => do
    let ea ← indexedAt r (sext8 n) 1
    indirect ind ea
  | .off16 r n ind => do
    let ea ← indexedAt r n 4
    indirect ind ea
  | .accD r ind => do
    let s ← get
    let ea ← indexedAt r s.d 4
    indirect ind ea
  | .pc8 n ind => do
    let ea ← pcRelative (sext8 n) 1
    indirect ind ea
  | .pc16 n ind => do
    let ea ← pcRelative n 5
    indirect ind ea
  | .extInd n => do
    let ea ← read16 n
    addCyc 5
    pure ea

/-- `EffAddr(mode)` (R146). -/
def effAddr (e : Ea) : M Word :=
  match e with
  | .dir d => do
    let s ← get
    pure (joinBytes s.dp d)
  | .idx x => indexedEa x
  | .ext a => pure a

/-! ## Operands -/

/-- `ReadOperand8(mode)` (R147). -/
def readOperand8 (m : Src8) : M Byte :=
  match m with
  | .imm v => pure v
  | .mem e => do
    let ea ← effAddr e
    read8 ea

/-- `ReadOperand16(mode)` (R147). -/
def readOperand16 (m : Src16) : M Word :=
  match m with
  | .imm v => pure v
  | .mem e => do
    let ea ← effAddr e
    read16 ea

/-! ## Shapes of instructions -/

/-- An 8-bit operand is read, then the register and CC become `f register operand CC`. -/
def alu8 (r : Reg8) (f : Byte → Byte → Byte → Byte × Byte) (m : Src8) : M Unit := do
  let v ← readOperand8 m
  modify fun s => (s.set8 r (f (s.get8 r) v s.cc).1).withCC (f (s.get8 r) v s.cc).2

/-- As `alu8` with the result discarded: only CC is written. -/
def test8 (r : Reg8) (f : Byte → Byte → Byte → Byte × Byte) (m : Src8) : M Unit := do
  let v ← readOperand8 m
  modify fun s => s.withCC (f (s.get8 r) v s.cc).2

/-- A 16-bit operand is read, then the register and CC become `f register operand CC`. -/
def alu16 (r : Reg16) (f : Word → Word → Byte → Word × Byte) (m : Src16) : M Unit := do
  let v ← readOperand16 m
  modify fun s => (s.set16 r (f (s.get16 r) v s.cc).1).withCC (f (s.get16 r) v s.cc).2

/-- As `alu16` with the result discarded. -/
def test16 (r : Reg16) (f : Word → Word → Byte → Word × Byte) (m : Src16) : M Unit := do
  let v ← readOperand16 m
  modify fun s => s.withCC (f (s.get16 r) v s.cc).2

/-- An accumulator and CC become `f accumulator CC`. -/
def modifyReg (r : Reg8) (f : Byte → Byte → Byte × Byte) : M Unit :=
  modify fun s => (s.set8 r (f (s.get8 r) s.cc).1).withCC (f (s.get8 r) s.cc).2

/-- `Modify8(mode, f)` (R149): the EA once, one read, CC, one write. -/
def modifyMem (e : Ea) (f : Byte → Byte → Byte × Byte) : M Unit := do
  let ea ← effAddr e
  let v ← read8 ea
  let s ← get
  modify fun t => t.withCC (f v s.cc).2
  write8 ea (f v s.cc).1

/-- A store of an 8-bit register (R148, R150, spec/41_load_store.md R170): the value is the register after the
EA is computed; the store comes first, then N, Z and V = 0 from the value. -/
def store8 (r : Reg8) (e : Ea) : M Unit := do
  let ea ← effAddr e
  let s ← get
  write8 ea (s.get8 r)
  modify fun t => t.withCC (putNZ0 (s.get8 r) t.cc)

/-- A store of a 16-bit register (R148, R150, spec/41_load_store.md R170). -/
def store16 (r : Reg16) (e : Ea) : M Unit := do
  let ea ← effAddr e
  let s ← get
  write16 ea (s.get16 r)
  modify fun t => t.withCC (putNZ0 (s.get16 r) t.cc)

/-- A load of an effective address (spec/41_load_store.md R185 to R188); Z from it where `setsZ`. -/
def loadEa (r : Reg16) (setsZ : Bool) (i : Idx) : M Unit := do
  let ea ← indexedEa i
  modify fun s =>
    (s.set16 r ea).withCC (if setsZ then putFlag .z (ea == 0) s.cc else s.cc)

/-- A branch by an offset already extended to 16 bits (spec/44_control.md R307, R308): relative to the address
after the instruction, with the taken cycles where the condition holds. -/
def branch (p : Cond) (off : Word) : M Unit := do
  let s ← get
  if p.holds s.cc then do
    modify fun t => t.withPC (t.pc + off)
    addCyc s.cfg.branchTakenExtra
  else pure ()

/-- A call (spec/44_control.md R301 to R303): the address after the instruction goes on S, then PC. -/
def call (target : Word) : M Unit := do
  let s ← get
  push16 .s s.pc
  modify fun t => t.withPC target

/-- A push of a register list (spec/45_stack_transfer.md R346, R348). -/
def pushRegs (p : Stk) (m : Byte) : M Unit := do
  pushList p m
  let s ← get
  addCyc (listCycles s.cfg.pushPullCycles m)

/-- A pull of a register list (spec/45_stack_transfer.md R347, R349). -/
def pullRegs (p : Stk) (m : Byte) : M Unit := do
  pullList p m
  let s ← get
  addCyc (listCycles s.cfg.pushPullCycles m)

/-- EXG and TFR of a well-formed pair, or `IllegalRegisterTransfer` (spec/45_stack_transfer.md R350):
`f8` and `f16` say what the pair of registers does. -/
def transfer (r1 r2 : XReg) (f8 : Reg8 → Reg8 → State → State)
    (f16 : Reg16 → Reg16 → State → State) : M Unit :=
  match r1, r2 with
  | .r8 p, .r8 q => modify (f8 p q)
  | .r16 p, .r16 q => modify (f16 p q)
  | .r8 _, .r16 _ => raise (.illegalRegisterTransfer (pairByte r1 r2))
  | .r16 _, .r8 _ => raise (.illegalRegisterTransfer (pairByte r1 r2))

/-- Both 8-bit registers read before either is written (R351). -/
def exchange8 (p q : Reg8) (s : State) : State := (s.set8 p (s.get8 q)).set8 q (s.get8 p)

/-- Both 16-bit registers read before either is written (R351). -/
def exchange16 (p q : Reg16) (s : State) : State := (s.set16 p (s.get16 q)).set16 q (s.get16 p)

/-- `x[r2] <- x[r1]` for 8-bit registers (R352). -/
def copy8 (p q : Reg8) (s : State) : State := s.set8 q (s.get8 p)

/-- `x[r2] <- x[r1]` for 16-bit registers (R352). -/
def copy16 (p q : Reg16) (s : State) : State := s.set16 q (s.get16 p)

end Sys2Proof.Machine
end

