-- ==== Sys2Proof/Machine/Arithmetic.lean ====
section
/-!
DEFINITION. The meanings of CLR, ADD, ADC, SUB, CMP, NEG, INC and DEC (spec/42_arithmetic.md): one definition for each instruction.
-/
namespace Sys2Proof.Machine

open Host

/-- CLR, clear a memory byte (R205). -/
def execClr (e : Ea) (s : State) : Outcome State Fault Refusal :=
  perform (.clr e) (do
    let ea ← effAddr e
    write8 ea 0
    modify fun t => t.withCC (clrCC t.cc)) s

/-- CLRA, clear accumulator A (R206). -/
def execClra (s : State) : Outcome State Fault Refusal :=
  perform .clra (modify fun t => (t.set8 .a 0).withCC (clrCC t.cc)) s

/-- CLRB, clear accumulator B (R207). -/
def execClrb (s : State) : Outcome State Fault Refusal :=
  perform .clrb (modify fun t => (t.set8 .b 0).withCC (clrCC t.cc)) s

/-- ADDA, add to accumulator A (R208). -/
def execAdda (m : Src8) (s : State) : Outcome State Fault Refusal :=
  perform (.adda m) (alu8 .a addOp m) s

/-- ADDB, add to accumulator B (R209). -/
def execAddb (m : Src8) (s : State) : Outcome State Fault Refusal :=
  perform (.addb m) (alu8 .b addOp m) s

/-- ADDD, add to accumulator D (R210). -/
def execAddd (m : Src16) (s : State) : Outcome State Fault Refusal :=
  perform (.addd m) (alu16 .d addWordOp m) s

/-- ADCA, add with carry to accumulator A (R211). -/
def execAdca (m : Src8) (s : State) : Outcome State Fault Refusal :=
  perform (.adca m) (alu8 .a adcOp m) s

/-- ADCB, add with carry to accumulator B (R212). -/
def execAdcb (m : Src8) (s : State) : Outcome State Fault Refusal :=
  perform (.adcb m) (alu8 .b adcOp m) s

/-- SUBA, subtract from accumulator A (R213). -/
def execSuba (m : Src8) (s : State) : Outcome State Fault Refusal :=
  perform (.suba m) (alu8 .a subOp m) s

/-- SUBB, subtract from accumulator B (R214). -/
def execSubb (m : Src8) (s : State) : Outcome State Fault Refusal :=
  perform (.subb m) (alu8 .b subOp m) s

/-- SUBD, subtract from accumulator D (R215). -/
def execSubd (m : Src16) (s : State) : Outcome State Fault Refusal :=
  perform (.subd m) (alu16 .d subWordOp m) s

/-- CMPA, compare accumulator A (R216). -/
def execCmpa (m : Src8) (s : State) : Outcome State Fault Refusal :=
  perform (.cmpa m) (test8 .a subOp m) s

/-- CMPB, compare accumulator B (R217). -/
def execCmpb (m : Src8) (s : State) : Outcome State Fault Refusal :=
  perform (.cmpb m) (test8 .b subOp m) s

/-- CMPD, compare accumulator D (R218). -/
def execCmpd (m : Src16) (s : State) : Outcome State Fault Refusal :=
  perform (.cmpd m) (test16 .d subWordOp m) s

/-- CMPX, compare index register X (R219). -/
def execCmpx (m : Src16) (s : State) : Outcome State Fault Refusal :=
  perform (.cmpx m) (test16 .x subWordOp m) s

/-- CMPY, compare index register Y (R220). -/
def execCmpy (m : Src16) (s : State) : Outcome State Fault Refusal :=
  perform (.cmpy m) (test16 .y subWordOp m) s

/-- CMPU, compare user stack pointer U (R221). -/
def execCmpu (m : Src16) (s : State) : Outcome State Fault Refusal :=
  perform (.cmpu m) (test16 .u subWordOp m) s

/-- CMPS, compare hardware stack pointer S (R222). -/
def execCmps (m : Src16) (s : State) : Outcome State Fault Refusal :=
  perform (.cmps m) (test16 .s subWordOp m) s

/-- NEG, negate a memory byte (R223). -/
def execNeg (e : Ea) (s : State) : Outcome State Fault Refusal :=
  perform (.neg e) (modifyMem e negOp) s

/-- NEGA, negate accumulator A (R224). -/
def execNega (s : State) : Outcome State Fault Refusal :=
  perform .nega (modifyReg .a negOp) s

/-- NEGB, negate accumulator B (R225). -/
def execNegb (s : State) : Outcome State Fault Refusal :=
  perform .negb (modifyReg .b negOp) s

/-- INC, increment a memory byte (R226). -/
def execInc (e : Ea) (s : State) : Outcome State Fault Refusal :=
  perform (.inc e) (modifyMem e (incOp s.cfg.incVRule)) s

/-- INCA, increment accumulator A (R227). -/
def execInca (s : State) : Outcome State Fault Refusal :=
  perform .inca (modifyReg .a (incOp s.cfg.incVRule)) s

/-- INCB, increment accumulator B (R228). -/
def execIncb (s : State) : Outcome State Fault Refusal :=
  perform .incb (modifyReg .b (incOp s.cfg.incVRule)) s

/-- DEC, decrement a memory byte (R229). -/
def execDec (e : Ea) (s : State) : Outcome State Fault Refusal :=
  perform (.dec e) (modifyMem e decOp) s

/-- DECA, decrement accumulator A (R230). -/
def execDeca (s : State) : Outcome State Fault Refusal :=
  perform .deca (modifyReg .a decOp) s

/-- DECB, decrement accumulator B (R231). -/
def execDecb (s : State) : Outcome State Fault Refusal :=
  perform .decb (modifyReg .b decOp) s

end Sys2Proof.Machine
end

