-- ==== Sys2Proof/Machine/Control.lean ====
section
/-!
DEFINITION. The meanings of jumps, calls, returns, NOP and the branches (spec/44_control.md): one definition for each instruction.
-/
namespace Sys2Proof.Machine

open Host

/-- JMP, jump (R300). -/
def execJmp (e : Ea) (s : State) : Outcome State Fault Refusal :=
  perform (.jmp e) (do
    let ea ← effAddr e
    modify fun t => t.withPC ea) s

/-- JSR, jump to subroutine (R301). -/
def execJsr (e : Ea) (s : State) : Outcome State Fault Refusal :=
  perform (.jsr e) (do
    let ea ← effAddr e
    call ea) s

/-- BSR, branch to subroutine, short form (R302). -/
def execBsr (off : Byte) (s : State) : Outcome State Fault Refusal :=
  perform (.bsr off) (do
    let t ← get
    call (t.pc + sext8 off)) s

/-- LBSR, long branch to subroutine (R303). -/
def execLbsr (off : Word) (s : State) : Outcome State Fault Refusal :=
  perform (.lbsr off) (do
    let t ← get
    call (t.pc + off)) s

/-- RTS, return from subroutine (R304). -/
def execRts (s : State) : Outcome State Fault Refusal :=
  perform .rts (pullIf16 .s true .pc) s

/-- NOP, no operation (R305). -/
def execNop (s : State) : Outcome State Fault Refusal :=
  perform .nop (pure ()) s

/-- BRA, branch always, short form (R309). -/
def execBra (off : Byte) (s : State) : Outcome State Fault Refusal :=
  perform (.bra off) (branch .always (sext8 off)) s

/-- BRN, branch never, short form (R310). -/
def execBrn (off : Byte) (s : State) : Outcome State Fault Refusal :=
  perform (.brn off) (branch .never (sext8 off)) s

/-- BHI, branch if higher, unsigned, short form (R311). -/
def execBhi (off : Byte) (s : State) : Outcome State Fault Refusal :=
  perform (.bhi off) (branch .hi (sext8 off)) s

/-- BLS, branch if lower or same, unsigned, short form (R312). -/
def execBls (off : Byte) (s : State) : Outcome State Fault Refusal :=
  perform (.bls off) (branch .ls (sext8 off)) s

/-- BCC, (alias BHS) branch if carry clear (higher or same, unsigned), short form (R313). -/
def execBcc (off : Byte) (s : State) : Outcome State Fault Refusal :=
  perform (.bcc off) (branch .carryClear (sext8 off)) s

/-- BCS, (alias BLO) branch if carry set (lower, unsigned), short form (R314). -/
def execBcs (off : Byte) (s : State) : Outcome State Fault Refusal :=
  perform (.bcs off) (branch .carrySet (sext8 off)) s

/-- BNE, branch if not equal, short form (R315). -/
def execBne (off : Byte) (s : State) : Outcome State Fault Refusal :=
  perform (.bne off) (branch .ne (sext8 off)) s

/-- BEQ, branch if equal, short form (R316). -/
def execBeq (off : Byte) (s : State) : Outcome State Fault Refusal :=
  perform (.beq off) (branch .eq (sext8 off)) s

/-- BVC, branch if overflow clear, short form (R317). -/
def execBvc (off : Byte) (s : State) : Outcome State Fault Refusal :=
  perform (.bvc off) (branch .vc (sext8 off)) s

/-- BVS, branch if overflow set, short form (R318). -/
def execBvs (off : Byte) (s : State) : Outcome State Fault Refusal :=
  perform (.bvs off) (branch .vs (sext8 off)) s

/-- BPL, branch if plus, short form (R319). -/
def execBpl (off : Byte) (s : State) : Outcome State Fault Refusal :=
  perform (.bpl off) (branch .pl (sext8 off)) s

/-- BMI, branch if minus, short form (R320). -/
def execBmi (off : Byte) (s : State) : Outcome State Fault Refusal :=
  perform (.bmi off) (branch .mi (sext8 off)) s

/-- BGE, branch if greater or equal, signed, short form (R321). -/
def execBge (off : Byte) (s : State) : Outcome State Fault Refusal :=
  perform (.bge off) (branch .ge (sext8 off)) s

/-- BLT, branch if less than, signed, short form (R322). -/
def execBlt (off : Byte) (s : State) : Outcome State Fault Refusal :=
  perform (.blt off) (branch .lt (sext8 off)) s

/-- BGT, branch if greater than, signed, short form (R323). -/
def execBgt (off : Byte) (s : State) : Outcome State Fault Refusal :=
  perform (.bgt off) (branch .gt (sext8 off)) s

/-- BLE, branch if less or equal, signed, short form (R324). -/
def execBle (off : Byte) (s : State) : Outcome State Fault Refusal :=
  perform (.ble off) (branch .le (sext8 off)) s

/-- LBRA, long branch always (R325). -/
def execLbra (off : Word) (s : State) : Outcome State Fault Refusal :=
  perform (.lbra off) (branch .always off) s

/-- LBRN, long branch never (R326). -/
def execLbrn (off : Word) (s : State) : Outcome State Fault Refusal :=
  perform (.lbrn off) (branch .never off) s

/-- LBHI, long branch if higher, unsigned (R327). -/
def execLbhi (off : Word) (s : State) : Outcome State Fault Refusal :=
  perform (.lbhi off) (branch .hi off) s

/-- LBLS, long branch if lower or same, unsigned (R328). -/
def execLbls (off : Word) (s : State) : Outcome State Fault Refusal :=
  perform (.lbls off) (branch .ls off) s

/-- LBCC, (alias LBHS) long branch if carry clear (higher or same, unsigned) (R329). -/
def execLbcc (off : Word) (s : State) : Outcome State Fault Refusal :=
  perform (.lbcc off) (branch .carryClear off) s

/-- LBCS, (alias LBLO) long branch if carry set (lower, unsigned) (R330). -/
def execLbcs (off : Word) (s : State) : Outcome State Fault Refusal :=
  perform (.lbcs off) (branch .carrySet off) s

/-- LBNE, long branch if not equal (R331). -/
def execLbne (off : Word) (s : State) : Outcome State Fault Refusal :=
  perform (.lbne off) (branch .ne off) s

/-- LBEQ, long branch if equal (R332). -/
def execLbeq (off : Word) (s : State) : Outcome State Fault Refusal :=
  perform (.lbeq off) (branch .eq off) s

/-- LBVC, long branch if overflow clear (R333). -/
def execLbvc (off : Word) (s : State) : Outcome State Fault Refusal :=
  perform (.lbvc off) (branch .vc off) s

/-- LBVS, long branch if overflow set (R334). -/
def execLbvs (off : Word) (s : State) : Outcome State Fault Refusal :=
  perform (.lbvs off) (branch .vs off) s

/-- LBPL, long branch if plus (R335). -/
def execLbpl (off : Word) (s : State) : Outcome State Fault Refusal :=
  perform (.lbpl off) (branch .pl off) s

/-- LBMI, long branch if minus (R336). -/
def execLbmi (off : Word) (s : State) : Outcome State Fault Refusal :=
  perform (.lbmi off) (branch .mi off) s

/-- LBGE, long branch if greater or equal, signed (R337). -/
def execLbge (off : Word) (s : State) : Outcome State Fault Refusal :=
  perform (.lbge off) (branch .ge off) s

/-- LBLT, long branch if less than, signed (R338). -/
def execLblt (off : Word) (s : State) : Outcome State Fault Refusal :=
  perform (.lblt off) (branch .lt off) s

/-- LBGT, long branch if greater than, signed (R339). -/
def execLbgt (off : Word) (s : State) : Outcome State Fault Refusal :=
  perform (.lbgt off) (branch .gt off) s

/-- LBLE, long branch if less or equal, signed (R340). -/
def execLble (off : Word) (s : State) : Outcome State Fault Refusal :=
  perform (.lble off) (branch .le off) s

end Sys2Proof.Machine
end

