-- ==== Sys2Proof/Machine/Extension.lean ====
section
/-!
DEFINITION. The meanings of the instructions that only some configurations execute (spec/46_extension.md): one definition for each instruction.
-/
namespace Sys2Proof.Machine

open Host

/-- EORA, exclusive OR into A (R371). -/
def execEora (m : Src8) (s : State) : Outcome State Fault Refusal :=
  performGated .extension (.eora m) (alu8 .a eorOp m) s

/-- EORB, exclusive OR into B (R372). -/
def execEorb (m : Src8) (s : State) : Outcome State Fault Refusal :=
  performGated .extension (.eorb m) (alu8 .b eorOp m) s

/-- SBCA, subtract with borrow from A (R373). -/
def execSbca (m : Src8) (s : State) : Outcome State Fault Refusal :=
  performGated .extension (.sbca m) (alu8 .a sbcOp m) s

/-- SBCB, subtract with borrow from B (R374). -/
def execSbcb (m : Src8) (s : State) : Outcome State Fault Refusal :=
  performGated .extension (.sbcb m) (alu8 .b sbcOp m) s

/-- ROL, rotate a memory byte left through C (R375). -/
def execRol (e : Ea) (s : State) : Outcome State Fault Refusal :=
  performGated .extension (.rol e) (modifyMem e rolOp) s

/-- ROLA, rotate A left through C (R376). -/
def execRola (s : State) : Outcome State Fault Refusal :=
  performGated .extension .rola (modifyReg .a rolOp) s

/-- ROLB, rotate B left through C (R377). -/
def execRolb (s : State) : Outcome State Fault Refusal :=
  performGated .extension .rolb (modifyReg .b rolOp) s

/-- ROR, rotate a memory byte right through C (R378). -/
def execRor (e : Ea) (s : State) : Outcome State Fault Refusal :=
  performGated .extension (.ror e) (modifyMem e rorOp) s

/-- RORA, rotate A right through C (R379). -/
def execRora (s : State) : Outcome State Fault Refusal :=
  performGated .extension .rora (modifyReg .a rorOp) s

/-- RORB, rotate B right through C (R380). -/
def execRorb (s : State) : Outcome State Fault Refusal :=
  performGated .extension .rorb (modifyReg .b rorOp) s

/-- MUL, unsigned multiply A by B into D (R381). -/
def execMul (s : State) : Outcome State Fault Refusal :=
  performGated .extension .mul (modify fun t => (t.set16 .d (mulProduct t.a t.b)).withCC (mulCC (mulProduct t.a t.b) t.cc)) s

/-- SEX, sign-extend B into D (R382). -/
def execSex (s : State) : Outcome State Fault Refusal :=
  performGated .extension .sex (modify fun t => (t.set8 .a (sexHigh t.b)).withCC (sexCC t.b t.cc)) s

/-- ABX, add B to X, unsigned (R383). -/
def execAbx (s : State) : Outcome State Fault Refusal :=
  performGated .extension .abx (modify fun t => t.set16 .x (t.x + zext8 t.b)) s

/-- DAA, decimal adjust A (R384). -/
def execDaa (s : State) : Outcome State Fault Refusal :=
  performGated .extension .daa (modifyReg .a daaOp) s

/-- SWI, software interrupt (R386). -/
def execSwi (s : State) : Outcome State Fault Refusal :=
  performGated .extension .swi (takeException maskIF vectorSwi) s

/-- SWI2, software interrupt 2 (R387). -/
def execSwi2 (s : State) : Outcome State Fault Refusal :=
  performGated .extension .swi2 (takeException 0 vectorSwi2) s

/-- SWI3, software interrupt 3 (R388). -/
def execSwi3 (s : State) : Outcome State Fault Refusal :=
  performGated .extension .swi3 (takeException 0 vectorSwi3) s

/-- RTI, return from interrupt (R389). -/
def execRti (s : State) : Outcome State Fault Refusal :=
  performGated .extension .rti returnFromException s

/-- CWAI, clear CC bits and wait for interrupt (R390). -/
def execCwai (m : Byte) (s : State) : Outcome State Fault Refusal :=
  performGated .waiting (.cwai m) (do
    modify fun t => t.withCC (t.cc &&& m)
    pushEntire
    modify fun t => t.withWait .cwai) s

/-- SYNC, synchronise to an interrupt line (R391). -/
def execSync (s : State) : Outcome State Fault Refusal :=
  performGated .waiting .sync (modify fun t => t.withWait .sync) s

end Sys2Proof.Machine
end

