-- ==== Sys2Proof/Machine/LoadStore.lean ====
section
/-!
DEFINITION. The meanings of loads, stores and load effective address (spec/41_load_store.md): one definition for each instruction.
-/
namespace Sys2Proof.Machine

open Host

/-- LDA, load accumulator A (R171). -/
def execLda (m : Src8) (s : State) : Outcome State Fault Refusal :=
  perform (.lda m) (alu8 .a (fun _ m cc => ldOp m m cc) m) s

/-- LDB, load accumulator B (R172). -/
def execLdb (m : Src8) (s : State) : Outcome State Fault Refusal :=
  perform (.ldb m) (alu8 .b (fun _ m cc => ldOp m m cc) m) s

/-- LDD, load accumulator D (A high, B low) (R173). -/
def execLdd (m : Src16) (s : State) : Outcome State Fault Refusal :=
  perform (.ldd m) (alu16 .d (fun _ m cc => ldOp m m cc) m) s

/-- LDX, load index register X (R174). -/
def execLdx (m : Src16) (s : State) : Outcome State Fault Refusal :=
  perform (.ldx m) (alu16 .x (fun _ m cc => ldOp m m cc) m) s

/-- LDY, load index register Y (R175). -/
def execLdy (m : Src16) (s : State) : Outcome State Fault Refusal :=
  perform (.ldy m) (alu16 .y (fun _ m cc => ldOp m m cc) m) s

/-- LDU, load user stack pointer U (R176). -/
def execLdu (m : Src16) (s : State) : Outcome State Fault Refusal :=
  perform (.ldu m) (alu16 .u (fun _ m cc => ldOp m m cc) m) s

/-- LDS, load hardware stack pointer S (R177). -/
def execLds (m : Src16) (s : State) : Outcome State Fault Refusal :=
  perform (.lds m) (alu16 .s (fun _ m cc => ldOp m m cc) m) s

/-- STA, store accumulator A (R178). -/
def execSta (e : Ea) (s : State) : Outcome State Fault Refusal :=
  perform (.sta e) (store8 .a e) s

/-- STB, store accumulator B (R179). -/
def execStb (e : Ea) (s : State) : Outcome State Fault Refusal :=
  perform (.stb e) (store8 .b e) s

/-- STD, store accumulator D (R180). -/
def execStd (e : Ea) (s : State) : Outcome State Fault Refusal :=
  perform (.std e) (store16 .d e) s

/-- STX, store index register X (R181). -/
def execStx (e : Ea) (s : State) : Outcome State Fault Refusal :=
  perform (.stx e) (store16 .x e) s

/-- STY, store index register Y (R182). -/
def execSty (e : Ea) (s : State) : Outcome State Fault Refusal :=
  perform (.sty e) (store16 .y e) s

/-- STU, store user stack pointer U (R183). -/
def execStu (e : Ea) (s : State) : Outcome State Fault Refusal :=
  perform (.stu e) (store16 .u e) s

/-- STS, store hardware stack pointer S (R184). -/
def execSts (e : Ea) (s : State) : Outcome State Fault Refusal :=
  perform (.sts e) (store16 .s e) s

/-- LEAX, load effective address into X (R185). -/
def execLeax (x : Idx) (s : State) : Outcome State Fault Refusal :=
  perform (.leax x) (loadEa .x true x) s

/-- LEAY, load effective address into Y (R186). -/
def execLeay (x : Idx) (s : State) : Outcome State Fault Refusal :=
  perform (.leay x) (loadEa .y true x) s

/-- LEAU, load effective address into U (R187). -/
def execLeau (x : Idx) (s : State) : Outcome State Fault Refusal :=
  perform (.leau x) (loadEa .u false x) s

/-- LEAS, load effective address into S (R188). -/
def execLeas (x : Idx) (s : State) : Outcome State Fault Refusal :=
  perform (.leas x) (loadEa .s false x) s

end Sys2Proof.Machine
end

