-- ==== Sys2Proof/Machine/ShiftLogic.lean ====
section
/-!
DEFINITION. The meanings of ASR, LSR, ASL, COM, OR, AND, BIT, ORCC, ANDCC and TST (spec/43_shift_logic.md): one definition for each instruction.
-/
namespace Sys2Proof.Machine

open Host

/-- ASR, arithmetic shift right of a memory byte (R250). -/
def execAsr (e : Ea) (s : State) : Outcome State Fault Refusal :=
  perform (.asr e) (modifyMem e asrOp) s

/-- ASRA, arithmetic shift right of A (R251). -/
def execAsra (s : State) : Outcome State Fault Refusal :=
  perform .asra (modifyReg .a asrOp) s

/-- ASRB, arithmetic shift right of B (R252). -/
def execAsrb (s : State) : Outcome State Fault Refusal :=
  perform .asrb (modifyReg .b asrOp) s

/-- LSR, logical shift right of a memory byte (R253). -/
def execLsr (e : Ea) (s : State) : Outcome State Fault Refusal :=
  perform (.lsr e) (modifyMem e lsrOp) s

/-- LSRA, logical shift right of A (R254). -/
def execLsra (s : State) : Outcome State Fault Refusal :=
  perform .lsra (modifyReg .a lsrOp) s

/-- LSRB, logical shift right of B (R255). -/
def execLsrb (s : State) : Outcome State Fault Refusal :=
  perform .lsrb (modifyReg .b lsrOp) s

/-- ASL, arithmetic shift left of a memory byte (R256). -/
def execAsl (e : Ea) (s : State) : Outcome State Fault Refusal :=
  perform (.asl e) (modifyMem e aslOp) s

/-- ASLA, arithmetic shift left of A (R257). -/
def execAsla (s : State) : Outcome State Fault Refusal :=
  perform .asla (modifyReg .a aslOp) s

/-- ASLB, arithmetic shift left of B (R258). -/
def execAslb (s : State) : Outcome State Fault Refusal :=
  perform .aslb (modifyReg .b aslOp) s

/-- COM, complement a memory byte (R259). -/
def execCom (e : Ea) (s : State) : Outcome State Fault Refusal :=
  perform (.com e) (modifyMem e comOp) s

/-- COMA, complement A (R260). -/
def execComa (s : State) : Outcome State Fault Refusal :=
  perform .coma (modifyReg .a comOp) s

/-- COMB, complement B (R261). -/
def execComb (s : State) : Outcome State Fault Refusal :=
  perform .comb (modifyReg .b comOp) s

/-- ORA, inclusive OR into A (R262). -/
def execOra (m : Src8) (s : State) : Outcome State Fault Refusal :=
  perform (.ora m) (alu8 .a orOp m) s

/-- ORB, inclusive OR into B (R263). -/
def execOrb (m : Src8) (s : State) : Outcome State Fault Refusal :=
  perform (.orb m) (alu8 .b orOp m) s

/-- ANDA, logical AND into A (R264). -/
def execAnda (m : Src8) (s : State) : Outcome State Fault Refusal :=
  perform (.anda m) (alu8 .a andOp m) s

/-- ANDB, logical AND into B (R265). -/
def execAndb (m : Src8) (s : State) : Outcome State Fault Refusal :=
  perform (.andb m) (alu8 .b andOp m) s

/-- BITA, bit test of A (R266). -/
def execBita (m : Src8) (s : State) : Outcome State Fault Refusal :=
  perform (.bita m) (test8 .a andOp m) s

/-- BITB, bit test of B (R267). -/
def execBitb (m : Src8) (s : State) : Outcome State Fault Refusal :=
  perform (.bitb m) (test8 .b andOp m) s

/-- ORCC, inclusive OR into CC (R268). -/
def execOrcc (m : Byte) (s : State) : Outcome State Fault Refusal :=
  perform (.orcc m) (modify fun t => t.withCC (t.cc ||| m)) s

/-- ANDCC, logical AND into CC (R269). -/
def execAndcc (m : Byte) (s : State) : Outcome State Fault Refusal :=
  perform (.andcc m) (modify fun t => t.withCC (t.cc &&& m)) s

/-- TST, test a memory byte (R270). -/
def execTst (e : Ea) (s : State) : Outcome State Fault Refusal :=
  perform (.tst e) (do
    let v ← readOperand8 (.mem e)
    modify fun t => t.withCC (putNZ0 v t.cc)) s

/-- TSTA, test A (R271). -/
def execTsta (s : State) : Outcome State Fault Refusal :=
  perform .tsta (modify fun t => t.withCC (putNZ0 (t.get8 .a) t.cc)) s

/-- TSTB, test B (R272). -/
def execTstb (s : State) : Outcome State Fault Refusal :=
  perform .tstb (modify fun t => t.withCC (putNZ0 (t.get8 .b) t.cc)) s

end Sys2Proof.Machine
end

