-- ==== Sys2Proof/Machine/StackTransfer.lean ====
section
/-!
DEFINITION. The meanings of PSH, PUL, EXG and TFR (spec/45_stack_transfer.md): one definition for each instruction.
-/
namespace Sys2Proof.Machine

open Host

/-- PSHS, push registers on the hardware stack S (R346). -/
def execPshs (m : Byte) (s : State) : Outcome State Fault Refusal :=
  perform (.pshs m) (pushRegs .s m) s

/-- PULS, pull registers from the hardware stack S (R347). -/
def execPuls (m : Byte) (s : State) : Outcome State Fault Refusal :=
  perform (.puls m) (pullRegs .s m) s

/-- PSHU, push registers on the user stack U (R348). -/
def execPshu (m : Byte) (s : State) : Outcome State Fault Refusal :=
  perform (.pshu m) (pushRegs .u m) s

/-- PULU, pull registers from the user stack U (R349). -/
def execPulu (m : Byte) (s : State) : Outcome State Fault Refusal :=
  perform (.pulu m) (pullRegs .u m) s

/-- EXG, exchange registers (R351). -/
def execExg (r1 r2 : XReg) (s : State) : Outcome State Fault Refusal :=
  perform (.exg r1 r2) (transfer r1 r2 exchange8 exchange16) s

/-- TFR, transfer register (R352). -/
def execTfr (r1 r2 : XReg) (s : State) : Outcome State Fault Refusal :=
  perform (.tfr r1 r2) (transfer r1 r2 copy8 copy16) s

end Sys2Proof.Machine
end

