-- ==== Sys2Proof/Machine/Dispatch.lean ====
section
/-!
DEFINITION. The one dispatch: each instruction to its meaning.
-/
namespace Sys2Proof.Machine

open Host

def exec (i : Instr) (s : State) : Host.Outcome State Fault Refusal :=
  match i with
  -- spec/41_load_store.md
  | .lda m => Sys2Proof.Machine.execLda m s
  | .ldb m => Sys2Proof.Machine.execLdb m s
  | .ldd m => Sys2Proof.Machine.execLdd m s
  | .ldx m => Sys2Proof.Machine.execLdx m s
  | .ldy m => Sys2Proof.Machine.execLdy m s
  | .ldu m => Sys2Proof.Machine.execLdu m s
  | .lds m => Sys2Proof.Machine.execLds m s
  | .sta e => Sys2Proof.Machine.execSta e s
  | .stb e => Sys2Proof.Machine.execStb e s
  | .std e => Sys2Proof.Machine.execStd e s
  | .stx e => Sys2Proof.Machine.execStx e s
  | .sty e => Sys2Proof.Machine.execSty e s
  | .stu e => Sys2Proof.Machine.execStu e s
  | .sts e => Sys2Proof.Machine.execSts e s
  | .leax x => Sys2Proof.Machine.execLeax x s
  | .leay x => Sys2Proof.Machine.execLeay x s
  | .leau x => Sys2Proof.Machine.execLeau x s
  | .leas x => Sys2Proof.Machine.execLeas x s
  -- spec/42_arithmetic.md
  | .clr e => Sys2Proof.Machine.execClr e s
  | .clra => Sys2Proof.Machine.execClra s
  | .clrb => Sys2Proof.Machine.execClrb s
  | .adda m => Sys2Proof.Machine.execAdda m s
  | .addb m => Sys2Proof.Machine.execAddb m s
  | .addd m => Sys2Proof.Machine.execAddd m s
  | .adca m => Sys2Proof.Machine.execAdca m s
  | .adcb m => Sys2Proof.Machine.execAdcb m s
  | .suba m => Sys2Proof.Machine.execSuba m s
  | .subb m => Sys2Proof.Machine.execSubb m s
  | .subd m => Sys2Proof.Machine.execSubd m s
  | .cmpa m => Sys2Proof.Machine.execCmpa m s
  | .cmpb m => Sys2Proof.Machine.execCmpb m s
  | .cmpd m => Sys2Proof.Machine.execCmpd m s
  | .cmpx m => Sys2Proof.Machine.execCmpx m s
  | .cmpy m => Sys2Proof.Machine.execCmpy m s
  | .cmpu m => Sys2Proof.Machine.execCmpu m s
  | .cmps m => Sys2Proof.Machine.execCmps m s
  | .neg e => Sys2Proof.Machine.execNeg e s
  | .nega => Sys2Proof.Machine.execNega s
  | .negb => Sys2Proof.Machine.execNegb s
  | .inc e => Sys2Proof.Machine.execInc e s
  | .inca => Sys2Proof.Machine.execInca s
  | .incb => Sys2Proof.Machine.execIncb s
  | .dec e => Sys2Proof.Machine.execDec e s
  | .deca => Sys2Proof.Machine.execDeca s
  | .decb => Sys2Proof.Machine.execDecb s
  -- spec/43_shift_logic.md
  | .asr e => Sys2Proof.Machine.execAsr e s
  | .asra => Sys2Proof.Machine.execAsra s
  | .asrb => Sys2Proof.Machine.execAsrb s
  | .lsr e => Sys2Proof.Machine.execLsr e s
  | .lsra => Sys2Proof.Machine.execLsra s
  | .lsrb => Sys2Proof.Machine.execLsrb s
  | .asl e => Sys2Proof.Machine.execAsl e s
  | .asla => Sys2Proof.Machine.execAsla s
  | .aslb => Sys2Proof.Machine.execAslb s
  | .com e => Sys2Proof.Machine.execCom e s
  | .coma => Sys2Proof.Machine.execComa s
  | .comb => Sys2Proof.Machine.execComb s
  | .ora m => Sys2Proof.Machine.execOra m s
  | .orb m => Sys2Proof.Machine.execOrb m s
  | .anda m => Sys2Proof.Machine.execAnda m s
  | .andb m => Sys2Proof.Machine.execAndb m s
  | .bita m => Sys2Proof.Machine.execBita m s
  | .bitb m => Sys2Proof.Machine.execBitb m s
  | .orcc m => Sys2Proof.Machine.execOrcc m s
  | .andcc m => Sys2Proof.Machine.execAndcc m s
  | .tst e => Sys2Proof.Machine.execTst e s
  | .tsta => Sys2Proof.Machine.execTsta s
  | .tstb => Sys2Proof.Machine.execTstb s
  -- spec/44_control.md
  | .jmp e => Sys2Proof.Machine.execJmp e s
  | .jsr e => Sys2Proof.Machine.execJsr e s
  | .bsr off => Sys2Proof.Machine.execBsr off s
  | .lbsr off => Sys2Proof.Machine.execLbsr off s
  | .rts => Sys2Proof.Machine.execRts s
  | .nop => Sys2Proof.Machine.execNop s
  | .bra off => Sys2Proof.Machine.execBra off s
  | .brn off => Sys2Proof.Machine.execBrn off s
  | .bhi off => Sys2Proof.Machine.execBhi off s
  | .bls off => Sys2Proof.Machine.execBls off s
  | .bcc off => Sys2Proof.Machine.execBcc off s
  | .bcs off => Sys2Proof.Machine.execBcs off s
  | .bne off => Sys2Proof.Machine.execBne off s
  | .beq off => Sys2Proof.Machine.execBeq off s
  | .bvc off => Sys2Proof.Machine.execBvc off s
  | .bvs off => Sys2Proof.Machine.execBvs off s
  | .bpl off => Sys2Proof.Machine.execBpl off s
  | .bmi off => Sys2Proof.Machine.execBmi off s
  | .bge off => Sys2Proof.Machine.execBge off s
  | .blt off => Sys2Proof.Machine.execBlt off s
  | .bgt off => Sys2Proof.Machine.execBgt off s
  | .ble off => Sys2Proof.Machine.execBle off s
  | .lbra off => Sys2Proof.Machine.execLbra off s
  | .lbrn off => Sys2Proof.Machine.execLbrn off s
  | .lbhi off => Sys2Proof.Machine.execLbhi off s
  | .lbls off => Sys2Proof.Machine.execLbls off s
  | .lbcc off => Sys2Proof.Machine.execLbcc off s
  | .lbcs off => Sys2Proof.Machine.execLbcs off s
  | .lbne off => Sys2Proof.Machine.execLbne off s
  | .lbeq off => Sys2Proof.Machine.execLbeq off s
  | .lbvc off => Sys2Proof.Machine.execLbvc off s
  | .lbvs off => Sys2Proof.Machine.execLbvs off s
  | .lbpl off => Sys2Proof.Machine.execLbpl off s
  | .lbmi off => Sys2Proof.Machine.execLbmi off s
  | .lbge off => Sys2Proof.Machine.execLbge off s
  | .lblt off => Sys2Proof.Machine.execLblt off s
  | .lbgt off => Sys2Proof.Machine.execLbgt off s
  | .lble off => Sys2Proof.Machine.execLble off s
  -- spec/45_stack_transfer.md
  | .pshs m => Sys2Proof.Machine.execPshs m s
  | .puls m => Sys2Proof.Machine.execPuls m s
  | .pshu m => Sys2Proof.Machine.execPshu m s
  | .pulu m => Sys2Proof.Machine.execPulu m s
  | .exg r1 r2 => Sys2Proof.Machine.execExg r1 r2 s
  | .tfr r1 r2 => Sys2Proof.Machine.execTfr r1 r2 s
  -- spec/46_extension.md
  | .eora m => Sys2Proof.Machine.execEora m s
  | .eorb m => Sys2Proof.Machine.execEorb m s
  | .sbca m => Sys2Proof.Machine.execSbca m s
  | .sbcb m => Sys2Proof.Machine.execSbcb m s
  | .rol e => Sys2Proof.Machine.execRol e s
  | .rola => Sys2Proof.Machine.execRola s
  | .rolb => Sys2Proof.Machine.execRolb s
  | .ror e => Sys2Proof.Machine.execRor e s
  | .rora => Sys2Proof.Machine.execRora s
  | .rorb => Sys2Proof.Machine.execRorb s
  | .mul => Sys2Proof.Machine.execMul s
  | .sex => Sys2Proof.Machine.execSex s
  | .abx => Sys2Proof.Machine.execAbx s
  | .daa => Sys2Proof.Machine.execDaa s
  | .swi => Sys2Proof.Machine.execSwi s
  | .swi2 => Sys2Proof.Machine.execSwi2 s
  | .swi3 => Sys2Proof.Machine.execSwi3 s
  | .rti => Sys2Proof.Machine.execRti s
  | .cwai m => Sys2Proof.Machine.execCwai m s
  | .sync => Sys2Proof.Machine.execSync s

end Sys2Proof.Machine
end

