-- ==== Sys2Proof/Machine/Fetch.lean ====
section
/-!
DEFINITION. Fetching one instruction through the bus (spec/00_scope.md R11, spec/30_encoding.md R100 to R103,
R115, R116, R119) and laying a table word where the fetch reads it.
-/
namespace Sys2Proof.Machine

/-- The page and opcode at PC: at most one page byte is consumed (R101, D42). -/
def fetchOpcode : M (Page × Byte) := do
  let first ← fetch8
  match pageOf first with
  | none => pure (.p0, first)
  | some p => do
    let op ← fetch8
    pure (p, op)

/-- An indexed operand: the post-byte, then the bytes its submode asks for (spec/40_addressing.md R140), or
`IllegalIndexedMode` before any of them (R141, spec/60_exceptions.md R415). -/
def fetchIdx : M Idx := do
  let pp ← fetch8
  match idxForm pp with
  | .none x => pure x
  | .one k => do
    let n ← fetch8
    pure (k n)
  | .two k => do
    let n ← fetch16
    pure (k n)
  | .illegal => raise (.illegalIndexedMode pp)

/-- An EXG/TFR pair, or `IllegalRegisterTransfer` (spec/45_stack_transfer.md R350, spec/60_exceptions.md
R416). -/
def fetchPair : M (XReg × XReg) := do
  let pp ← fetch8
  match regPair pp with
  | some p => pure p
  | none => raise (.illegalRegisterTransfer pp)

/-- The operand bytes of a row (spec/30_encoding.md R103). -/
def fetchOperand (f : OpForm) : M Instr :=
  match f with
  | .inh i => pure i
  | .imm8 k | .dir k | .rel8 k | .reglist k => do
    let v ← fetch8
    pure (k v)
  | .imm16 k | .ext k | .rel16 k => do
    let v ← fetch16
    pure (k v)
  | .idx k => do
    let x ← fetchIdx
    pure (k x)
  | .regpair k => do
    let p ← fetchPair
    pure (k p.1 p.2)

/-- The row of an opcode that may execute here: `IllegalOpcode` where there is none (R102, R115),
`UnimplementedOpcode` where the configuration does not execute its tier (R116, spec/46_extension.md R370). -/
def rowFor (p : Page) (op : Byte) : M Row := do
  match lookup p op with
  | none => raise (.illegalOpcode p op)
  | some row => do
    let s ← get
    if tierAllowed s.cfg row.tier then pure row else raise (.unimplementedOpcode p op)

/-- Fetch and decode of one instruction: the opcode, the checks of R102 in the order of
spec/60_exceptions.md R434, then the operand bytes. -/
def fetchInstr : M Instr := do
  let po ← fetchOpcode
  let row ← rowFor po.1 po.2
  fetchOperand row.form

/-! ## Placing instruction bytes -/

/-- The fetch of an address reads a byte of memory, not a device and not the fixed unmapped value. -/
def fetchesMemory (bus : BusConfig) (a : Word) : Bool :=
  match region bus a with
  | .cartridge | .ram | .bios | .flat => true
  | .via | .unmapped => false

/-- Where a table word of five bytes is placed: at PC where the fetch reads memory at all five addresses,
else at 0x0000, the start of the cartridge. -/
def placeFor (bus : BusConfig) (pc : Word) : Word :=
  if fetchesMemory bus pc && fetchesMemory bus (pc + 1) && fetchesMemory bus (pc + 2) &&
      fetchesMemory bus (pc + 3) && fetchesMemory bus (pc + 4) then pc else 0

/-- The memory with bytes stored where the fetch of `a`, `a + 1`, ... reads them. -/
def placeBytes (bus : BusConfig) : Memory → Word → List Byte → Memory
  | m, _, [] => m
  | m, a, v :: rest => placeBytes bus (m.put (cellKey bus a) v) (a + 1) rest

/-- An IRQ is taken at the start of the step instead of an instruction (spec/60_exceptions.md R433, R470). -/
def irqTaken (s : State) : Bool :=
  decide (s.cfg.interruptModel = .mc6809) && s.irqLine && !flag .i s.cc

/-- What a loader does for one table word (log 14): its bytes stand where the next step fetches, and nothing
keeps that step from fetching. -/
def placeWord (nbits w : Nat) (s : State) : State :=
  let at0 := placeFor s.cfg.bus s.pc
  let s1 := s.withMem (placeBytes s.cfg.bus s.mem at0 (fetchWindow nbits w))
  let s2 := ((s1.withPC at0).withFault none).withWait .none
  if irqTaken s2 then s2.withVia { s2.via with ier := 0 } else s2

end Sys2Proof.Machine
end

