-- ==== Sys2Proof/Machine/Execute.lean ====
section
/-!
DEFINITION. The parts of a step (spec/60_exceptions.md R470): the instruction, the entry or the wait that it
performs, and what follows it: the VIA, the PSG, the budget and the interrupt poll.
-/
namespace Sys2Proof.Machine

open Host

/-- The start of a step: `pc0 <- PC; cyc <- 0` (R470). -/
def beginStep (s : State) : State := (s.withPc0 s.pc).withCyc 0

/-- `ExecuteOne()`: exactly one instruction (R470, R492). -/
def executeOne (s : State) : Outcome State Fault Refusal :=
  match fetchInstr s with
  | .ok i t => exec i t
  | .error k t => stop k t

/-- What a step does first: an IRQ entry, one cycle of a wait, or one instruction (R470). -/
def stepBody (s : State) : Outcome State Fault Refusal :=
  if irqTaken s then finish irqEntry s
  else if s.wait ≠ .none then .next (s.withCyc 1)
  else executeOne s

/-- The devices advance by the step's cycles: the VIA, then the PSG (R452, R465, R470). The flat bus has no
devices (spec/20_memory.md R69). -/
def advanceDevices (s : State) : State :=
  match s.cfg.bus with
  | .vectrex => (s.withVia (s.via.update s.cfg.kInt s.cyc)).withPsg (psgUpdate s.cyc s.psg)
  | .flatTest => s

/-- `budget <- budget - cyc` (R470). -/
def spendBudget (s : State) : State := s.withBudget (s.budget - (s.cyc : Rat))

/-- `Poll()` (R430). -/
def poll : M Unit := fun s =>
  match s.cfg.interruptModel with
  | .fault =>
    if s.irqLine && !flag .i s.cc then .error (.unmodelledInterrupt (s.via.ifr &&& s.via.ier)) s
    else .ok () s
  | .mc6809 => if s.wait = .sync ∧ s.irqLine then .ok () (s.withWait .none) else .ok () s

/-- The end of a step whose first part did not fault (R470). -/
def endOfStep (s : State) : Outcome State Fault Refusal :=
  finish poll (spendBudget (advanceDevices s))

/-- `Step()` of a machine with no fault (R470). -/
def stepLive (s : State) : Outcome State Fault Refusal :=
  match stepBody (beginStep s) with
  | .next t => endOfStep t
  | .fault r => .fault r
  | .refused r => .refused r

/-- `Step()` (R470): a machine whose fault record is set does nothing more (R411). -/
def stepOnce (s : State) : Outcome State Fault Refusal :=
  match s.fault with
  | some r => .fault (.fatal r s)
  | none => stepLive s

end Sys2Proof.Machine
end

