-- ==== Sys2Proof/Machine/Step.lean ====
section
/-!
DEFINITION. The step function (spec/60_exceptions.md R470) and the state whose next step runs a given table word.
-/
namespace Sys2Proof.Machine

/-- One step of the machine (R470). -/
def step (s : State) : Host.Outcome State Fault Refusal := stepOnce s

/-- `s` with the instruction of a table word where the next step fetches it (log 13, log 14). -/
def State.withFetchWord (s : State) (nbits w : Nat) : State := placeWord nbits w s

end Sys2Proof.Machine
end

