-- ==== Sys2Proof/Machine/Frame.lean ====
section
/-!
DEFINITION. The host's interface (spec/60_exceptions.md R471 to R476): loading images, the frame loop, the
outputs and the exit code. No instruction reaches any of it.
-/
namespace Sys2Proof.Machine

/-- The memory with the region of `size` bytes at `base` replaced by an image (R475). DESIGN CHOICE (log 23):
under flat_test, which has no images (spec/20_memory.md R69), the rest of that range of the flat RAM is zeroed
too. -/
def replaceImage (m : Memory) (base size : Nat) (img : List Byte) : Memory :=
  (m.clear base size).putAll base img

/-- A load of an image into a region: `none` stands for a file that cannot be read. An unreadable or too
long image answers false and changes nothing; else the image is replaced and nothing else (R420, R475). -/
def loadImage (base size : Nat) (file : Option (List Byte)) (s : State) : Bool × State :=
  match file with
  | none => (false, s)
  | some img =>
    if img.length ≤ size then (true, s.withMem (replaceImage s.mem base size img)) else (false, s)

/-- `emulator.load_bios` (R475): 8 KiB at 0xE000. -/
def loadBios (file : Option (List Byte)) (s : State) : Bool × State := loadImage 0xE000 0x2000 file s

/-- `emulator.load_rom` (R475): up to 32 KiB at 0x0000. -/
def loadCart (file : Option (List Byte)) (s : State) : Bool × State := loadImage 0x0000 0x8000 file s

/-- What `frame_update` returns (R412, R471, R472). -/
structure FrameOutput where
  lines : List Segment
  samples : List Rat
  fault : Option FaultRecord
  deriving DecidableEq, Repr

/-- The host raised `quit` before this step: `some 0`; `some n` raises it n steps later and `none` never
(R473, log 15). -/
def quitNow (q : Option Nat) : Bool := q == some 0

/-- The loop of `FrameUpdate` (R471). Each step spends a cycle or more where no base count is 0 (R511), so `fuel`
at the budget rounded up never runs out first. DESIGN CHOICE (log 15): the fuel. -/
def frameLoop : Nat → Option Nat → State → State
  | 0, _, s => s
  | fuel + 1, q, s =>
    if decide (0 < s.budget) && !quitNow q && decide (s.fault = none) then
      match step s with
      | .next t => frameLoop fuel (q.map (· - 1)) t
      | .fault (.fatal _ t) => t
      | .refused _ => s
    else s

/-- The start of a frame: the buttons are sampled and the budget grows by `dt * CPU_HZ` (R471, R474). -/
def beginFrame (buttons : BitVec 4) (dt : Rat) (s : State) : State :=
  (s.withButtons buttons).withBudget (s.budget + dt * (s.cfg.cpuHz : Rat))

/-- What the host takes at the end of a frame (R472). -/
def frameOutput (s : State) : FrameOutput := ⟨s.via.lines, s.psg.samples, s.fault⟩

/-- The state after the host took the frame's output: both lists are empty (R471, R472). -/
def endFrame (s : State) : State :=
  (s.withVia { s.via with lines := [] }).withPsg { s.psg with samples := [] }

/-- `FrameUpdate(dt)` with the host's button mask and quit flag (R471). -/
def frameUpdate (buttons : BitVec 4) (dt : Rat) (q : Option Nat) (s : State) : FrameOutput × State :=
  let s0 := beginFrame buttons dt s
  let t := frameLoop s0.budget.ceil.toNat q s0
  (frameOutput t, endFrame t)

/-- `input.set_analog(x, y)` has no effect on the core (R474). -/
def setAnalog (_x _y : Int) (s : State) : State := s

/-- Whether the process ends with exit code 0: no fatal abort (R476). -/
def exitClean (s : State) : Bool := decide (s.fault = none)

end Sys2Proof.Machine
end

