-- ==== Sys2Proof/Safety.lean ====
section
/-!
DEFINITION. The vocabulary of the claims: what a safe state is, which registers and flags an instruction may
write and which addresses it stores to, and the plain arithmetic that the claims state flags in.
-/
namespace Sys2Proof.Machine

/-! ## The invariant -/

/-- The keys that hold a byte of memory: the cartridge, the RAM once and the BIOS (spec/20_memory.md R63 to
R68), or all 65536 addresses of the flat bus (R69). -/
def storedKey (bus : BusConfig) (k : Nat) : Bool :=
  match bus with
  | .vectrex =>
    decide (k < 0x8000) || (decide (0xC800 ≤ k) && decide (k < 0xCC00)) ||
      (decide (0xE000 ≤ k) && decide (k < 0x10000))
  | .flatTest => decide (k < 0x10000)

/-- What the VIA's registers keep. -/
structure ViaSafe (v : Via) : Prop where
  /-- ACR bits 6-5 are 00 (spec/60_exceptions.md R449). -/
  acr : acrSupported v.acr = true
  /-- IFR bits 4 to 0 are never set (R431). -/
  ifr : v.ifr &&& 0x1F = 0
  /-- PCR is unwritten, or holds a supported value that /ZERO and /BLANK follow (R450). -/
  pcr : (v.pcr = 0 ∧ v.zeroActive = false ∧ v.blank = false) ∨
    (pcrSupported v.pcr = true ∧ v.zeroActive = (ca2 v.pcr == 0b110) ∧ v.blank = (cb2 v.pcr == 0b110))
  /-- /ZERO holds the beam at the origin and the line buffer empty (R450, R453, R485). -/
  zero : v.zeroActive = true → v.posX = 0 ∧ v.posY = 0 ∧ v.lines = []
  /-- Timer1's output on PB7 is 0 while it runs and 1 otherwise (R446). -/
  pb7 : v.t1Pb7 = !v.t1Armed
  /-- Only a lit beam draws (R453). -/
  lit : ∀ g ∈ v.lines, 0 < g.intensity.toNat

/-- What the PSG's registers keep. -/
structure PsgSafe (p : Psg) : Prop where
  /-- The divider's phase is 0 to 15 (spec/10_state.md R42). -/
  div : p.div < 16
  /-- A register holds no bit outside its mask (spec/60_exceptions.md R460). -/
  masked : ∀ a : BitVec 4, p.reg a &&& ~~~psgMask a = 0
  /-- A sample lies between 0 and 1/6 (R468). -/
  samples : ∀ q ∈ p.samples, 0 ≤ q ∧ q ≤ 1 / 6

/-- The invariant that every step keeps. -/
structure Safe (s : State) : Prop where
  /-- The stored bytes are in canonical form. -/
  memWf : s.mem.wf = true
  /-- Only addresses that hold a byte are listed. -/
  memKeys : ∀ c ∈ s.mem, storedKey s.cfg.bus c.1 = true
  via : ViaSafe s.via
  psg : PsgSafe s.psg
  /-- The PSG's mode is that of Port B bits 4 and 3 (spec/60_exceptions.md R444, R461). -/
  mode : s.psg.mode = psgModeOf (s.via.orb.getLsbD 4) (s.via.orb.getLsbD 3)
  /-- Only a configuration that executes CWAI and SYNC waits (spec/46_extension.md R370). -/
  wait : s.wait ≠ .none → s.cfg.extendedSet = true ∧ s.cfg.interruptModel = .mc6809
  /-- Under `ignore` no interrupt is ever enabled (spec/60_exceptions.md R481, R486). -/
  ier : s.cfg.viaFlagWrites = .ignore → s.via.ier = 0
  /-- No base count is 0 (spec/70_reset_and_hazards.md R511). -/
  cycles : s.cfg.cyclesPositive = true

/-- A run of `n` steps that meets no fault. -/
def RunsSafely (n : Nat) (s : State) : Prop :=
  ∃ t, Host.Core.run ⟨State, Fault, Refusal, step, State.reset⟩ n s = .next t

/-! ## What an instruction may write -/

/-- The registers a frame speaks of. CC and PC are spoken of apart. -/
inductive RegName where
  | a
  | b
  | dp
  | x
  | y
  | u
  | s
  deriving DecidableEq, Repr

/-- The value of a named register, widened to 16 bits. -/
def State.named (s : State) : RegName → Word
  | .a => zext8 s.a
  | .b => zext8 s.b
  | .dp => zext8 s.dp
  | .x => s.x
  | .y => s.y
  | .u => s.u
  | .s => s.sp

/-- The names a write of an 8-bit register changes. -/
def names8 : Reg8 → List RegName
  | .a => [.a]
  | .b => [.b]
  | .dp => [.dp]
  | .cc => []

/-- The names a write of a 16-bit register changes (spec/10_state.md R31). -/
def names16 : Reg16 → List RegName
  | .d => [.a, .b]
  | .x => [.x]
  | .y => [.y]
  | .u => [.u]
  | .s => [.s]
  | .pc => []

/-- The names a write of an EXG/TFR register changes. -/
def namesX : XReg → List RegName
  | .r8 r => names8 r
  | .r16 r => names16 r

/-- The index register an indexed mode updates (spec/40_addressing.md R145). -/
def movedIdx : Idx → List RegName
  | .inc1 r | .inc2 r _ | .dec1 r | .dec2 r _ => names16 (idxReg16 r)
  | _ => []

/-- The index register a memory operand updates. -/
def movedEa : Ea → List RegName
  | .idx x => movedIdx x
  | _ => []

/-- The index register an 8-bit source updates. -/
def moved8 : Src8 → List RegName
  | .mem e => movedEa e
  | .imm _ => []

/-- The index register a 16-bit source updates. -/
def moved16 : Src16 → List RegName
  | .mem e => movedEa e
  | .imm _ => []

/-- The names a pull of a register list writes, the stack pointer among them. -/
def pulledNames (p : Stk) (m : Byte) : List RegName :=
  names16 (stkReg p) ++ (if m.getLsbD 1 then [.a] else []) ++ (if m.getLsbD 2 then [.b] else [])
    ++ (if m.getLsbD 3 then [.dp] else []) ++ (if m.getLsbD 4 then [.x] else [])
    ++ (if m.getLsbD 5 then [.y] else []) ++ (if m.getLsbD 6 then names16 (otherStk p) else [])

/-- Every name. -/
def allNames : List RegName := [.a, .b, .dp, .x, .y, .u, .s]

/-- The registers an instruction may write beside CC and PC: its destination, the index register its mode
moves, the stack pointer it moves. -/
def regsWritten : Instr → List RegName
  | .lda m => .a :: moved8 m
  | .ldb m => .b :: moved8 m
  | .ldd m => .a :: .b :: moved16 m
  | .ldx m => .x :: moved16 m
  | .ldy m => .y :: moved16 m
  | .ldu m => .u :: moved16 m
  | .lds m => .s :: moved16 m
  | .sta e => movedEa e
  | .stb e => movedEa e
  | .std e => movedEa e
  | .stx e => movedEa e
  | .sty e => movedEa e
  | .stu e => movedEa e
  | .sts e => movedEa e
  | .leax x => .x :: movedIdx x
  | .leay x => .y :: movedIdx x
  | .leau x => .u :: movedIdx x
  | .leas x => .s :: movedIdx x
  | .clr e => movedEa e
  | .clra => [.a]
  | .clrb => [.b]
  | .adda m => .a :: moved8 m
  | .addb m => .b :: moved8 m
  | .addd m => .a :: .b :: moved16 m
  | .adca m => .a :: moved8 m
  | .adcb m => .b :: moved8 m
  | .suba m => .a :: moved8 m
  | .subb m => .b :: moved8 m
  | .subd m => .a :: .b :: moved16 m
  | .cmpa m => moved8 m
  | .cmpb m => moved8 m
  | .cmpd m => moved16 m
  | .cmpx m => moved16 m
  | .cmpy m => moved16 m
  | .cmpu m => moved16 m
  | .cmps m => moved16 m
  | .neg e => movedEa e
  | .nega => [.a]
  | .negb => [.b]
  | .inc e => movedEa e
  | .inca => [.a]
  | .incb => [.b]
  | .dec e => movedEa e
  | .deca => [.a]
  | .decb => [.b]
  | .asr e => movedEa e
  | .asra => [.a]
  | .asrb => [.b]
  | .lsr e => movedEa e
  | .lsra => [.a]
  | .lsrb => [.b]
  | .asl e => movedEa e
  | .asla => [.a]
  | .aslb => [.b]
  | .com e => movedEa e
  | .coma => [.a]
  | .comb => [.b]
  | .ora m => .a :: moved8 m
  | .orb m => .b :: moved8 m
  | .anda m => .a :: moved8 m
  | .andb m => .b :: moved8 m
  | .bita m => moved8 m
  | .bitb m => moved8 m
  | .orcc _ => []
  | .andcc _ => []
  | .tst e => movedEa e
  | .tsta => []
  | .tstb => []
  | .jmp e => movedEa e
  | .jsr e => .s :: movedEa e
  | .bsr _ => [.s]
  | .lbsr _ => [.s]
  | .rts => [.s]
  | .nop => []
  | .bra _ => []
  | .brn _ => []
  | .bhi _ => []
  | .bls _ => []
  | .bcc _ => []
  | .bcs _ => []
  | .bne _ => []
  | .beq _ => []
  | .bvc _ => []
  | .bvs _ => []
  | .bpl _ => []
  | .bmi _ => []
  | .bge _ => []
  | .blt _ => []
  | .bgt _ => []
  | .ble _ => []
  | .lbra _ => []
  | .lbrn _ => []
  | .lbhi _ => []
  | .lbls _ => []
  | .lbcc _ => []
  | .lbcs _ => []
  | .lbne _ => []
  | .lbeq _ => []
  | .lbvc _ => []
  | .lbvs _ => []
  | .lbpl _ => []
  | .lbmi _ => []
  | .lbge _ => []
  | .lblt _ => []
  | .lbgt _ => []
  | .lble _ => []
  | .pshs _ => [.s]
  | .puls m => pulledNames .s m
  | .pshu _ => [.u]
  | .pulu m => pulledNames .u m
  | .exg r1 r2 => namesX r1 ++ namesX r2
  | .tfr _ r2 => namesX r2
  | .eora m => .a :: moved8 m
  | .eorb m => .b :: moved8 m
  | .sbca m => .a :: moved8 m
  | .sbcb m => .b :: moved8 m
  | .rol e => movedEa e
  | .rola => [.a]
  | .rolb => [.b]
  | .ror e => movedEa e
  | .rora => [.a]
  | .rorb => [.b]
  | .mul => [.a, .b]
  | .sex => [.a]
  | .abx => [.x]
  | .daa => [.a]
  | .swi => [.s]
  | .swi2 => [.s]
  | .swi3 => [.s]
  | .rti => allNames
  | .cwai _ => [.s]
  | .sync => []

/-- Every flag. -/
def allFlags : List Flag := [.c, .v, .z, .n, .i, .h, .f, .e]

/-- The flags an instruction's rule names; every other flag is kept (spec/00_scope.md R15). -/
def flagsWritten : Instr → List Flag
  | .lda _ => [.n, .z, .v]
  | .ldb _ => [.n, .z, .v]
  | .ldd _ => [.n, .z, .v]
  | .ldx _ => [.n, .z, .v]
  | .ldy _ => [.n, .z, .v]
  | .ldu _ => [.n, .z, .v]
  | .lds _ => [.n, .z, .v]
  | .sta _ => [.n, .z, .v]
  | .stb _ => [.n, .z, .v]
  | .std _ => [.n, .z, .v]
  | .stx _ => [.n, .z, .v]
  | .sty _ => [.n, .z, .v]
  | .stu _ => [.n, .z, .v]
  | .sts _ => [.n, .z, .v]
  | .leax _ => [.z]
  | .leay _ => [.z]
  | .leau _ => []
  | .leas _ => []
  | .clr _ => [.n, .z, .v, .c]
  | .clra => [.n, .z, .v, .c]
  | .clrb => [.n, .z, .v, .c]
  | .adda _ => [.h, .n, .z, .v, .c]
  | .addb _ => [.h, .n, .z, .v, .c]
  | .addd _ => [.n, .z, .v, .c]
  | .adca _ => [.h, .n, .z, .v, .c]
  | .adcb _ => [.h, .n, .z, .v, .c]
  | .suba _ => [.n, .z, .v, .c]
  | .subb _ => [.n, .z, .v, .c]
  | .subd _ => [.n, .z, .v, .c]
  | .cmpa _ => [.n, .z, .v, .c]
  | .cmpb _ => [.n, .z, .v, .c]
  | .cmpd _ => [.n, .z, .v, .c]
  | .cmpx _ => [.n, .z, .v, .c]
  | .cmpy _ => [.n, .z, .v, .c]
  | .cmpu _ => [.n, .z, .v, .c]
  | .cmps _ => [.n, .z, .v, .c]
  | .neg _ => [.n, .z, .v, .c]
  | .nega => [.n, .z, .v, .c]
  | .negb => [.n, .z, .v, .c]
  | .inc _ => [.n, .z, .v]
  | .inca => [.n, .z, .v]
  | .incb => [.n, .z, .v]
  | .dec _ => [.n, .z, .v]
  | .deca => [.n, .z, .v]
  | .decb => [.n, .z, .v]
  | .asr _ => [.n, .z, .c]
  | .asra => [.n, .z, .c]
  | .asrb => [.n, .z, .c]
  | .lsr _ => [.n, .z, .c]
  | .lsra => [.n, .z, .c]
  | .lsrb => [.n, .z, .c]
  | .asl _ => [.n, .z, .v, .c]
  | .asla => [.n, .z, .v, .c]
  | .aslb => [.n, .z, .v, .c]
  | .com _ => [.n, .z, .v, .c]
  | .coma => [.n, .z, .v, .c]
  | .comb => [.n, .z, .v, .c]
  | .ora _ => [.n, .z, .v]
  | .orb _ => [.n, .z, .v]
  | .anda _ => [.n, .z, .v]
  | .andb _ => [.n, .z, .v]
  | .bita _ => [.n, .z, .v]
  | .bitb _ => [.n, .z, .v]
  | .orcc _ => allFlags
  | .andcc _ => allFlags
  | .tst _ => [.n, .z, .v]
  | .tsta => [.n, .z, .v]
  | .tstb => [.n, .z, .v]
  | .jmp _ => []
  | .jsr _ => []
  | .bsr _ => []
  | .lbsr _ => []
  | .rts => []
  | .nop => []
  | .bra _ => []
  | .brn _ => []
  | .bhi _ => []
  | .bls _ => []
  | .bcc _ => []
  | .bcs _ => []
  | .bne _ => []
  | .beq _ => []
  | .bvc _ => []
  | .bvs _ => []
  | .bpl _ => []
  | .bmi _ => []
  | .bge _ => []
  | .blt _ => []
  | .bgt _ => []
  | .ble _ => []
  | .lbra _ => []
  | .lbrn _ => []
  | .lbhi _ => []
  | .lbls _ => []
  | .lbcc _ => []
  | .lbcs _ => []
  | .lbne _ => []
  | .lbeq _ => []
  | .lbvc _ => []
  | .lbvs _ => []
  | .lbpl _ => []
  | .lbmi _ => []
  | .lbge _ => []
  | .lblt _ => []
  | .lbgt _ => []
  | .lble _ => []
  | .pshs _ => []
  | .puls m => if m.getLsbD 0 then allFlags else []
  | .pshu _ => []
  | .pulu m => if m.getLsbD 0 then allFlags else []
  | .exg r1 r2 => if r1 = .r8 .cc ∨ r2 = .r8 .cc then allFlags else []
  | .tfr _ r2 => if r2 = .r8 .cc then allFlags else []
  | .eora _ => [.n, .z, .v]
  | .eorb _ => [.n, .z, .v]
  | .sbca _ => [.n, .z, .v, .c]
  | .sbcb _ => [.n, .z, .v, .c]
  | .rol _ => [.n, .z, .v, .c]
  | .rola => [.n, .z, .v, .c]
  | .rolb => [.n, .z, .v, .c]
  | .ror _ => [.n, .z, .c]
  | .rora => [.n, .z, .c]
  | .rorb => [.n, .z, .c]
  | .mul => [.z, .c]
  | .sex => [.n, .z]
  | .abx => []
  | .daa => [.n, .z, .c]
  | .swi => [.e, .i, .f]
  | .swi2 => [.e]
  | .swi3 => [.e]
  | .rti => allFlags
  | .cwai _ => allFlags
  | .sync => []

/-- The state a meaning's body starts in: the cycle count is the instruction's base (spec/00_scope.md R14). -/
def start (i : Instr) (s : State) : State := s.withCyc (baseCycles s.cfg i)

/-- The address a memory operand names, `none` where computing it faults. -/
def addressOf (e : Ea) (s : State) : Option Word :=
  match effAddr e s with
  | .ok ea _ => some ea
  | .error _ _ => none

/-- The byte an 8-bit store to `e` writes. -/
def storeAt1 (e : Ea) (s : State) : List Word :=
  match addressOf e s with
  | some ea => [ea]
  | none => []

/-- The two bytes a 16-bit store to `e` writes (spec/00_scope.md R10). -/
def storeAt2 (e : Ea) (s : State) : List Word :=
  match addressOf e s with
  | some ea => [ea, ea + 1]
  | none => []

/-- The `n` addresses below a stack pointer, the nearest first (spec/00_scope.md R12). -/
def below (sp : Word) : Nat → List Word
  | 0 => []
  | n + 1 => (sp - 1) :: below (sp - 1) n

/-- The two bytes JSR stores: below S as its addressing mode leaves it. -/
def callAt (e : Ea) (s : State) : List Word :=
  match effAddr e s with
  | .ok _ t => below t.sp 2
  | .error _ _ => []

/-- The bytes a register list moves (spec/45_stack_transfer.md R345). -/
def listBytes (m : Byte) : Nat := listCount8 m + 2 * listCount16 m

/-- The addresses an instruction stores to, from the state its body starts in. -/
def storedTo (i : Instr) (s : State) : List Word :=
  match i with
  | .lda _ => []
  | .ldb _ => []
  | .ldd _ => []
  | .ldx _ => []
  | .ldy _ => []
  | .ldu _ => []
  | .lds _ => []
  | .sta e => storeAt1 e s
  | .stb e => storeAt1 e s
  | .std e => storeAt2 e s
  | .stx e => storeAt2 e s
  | .sty e => storeAt2 e s
  | .stu e => storeAt2 e s
  | .sts e => storeAt2 e s
  | .leax _ => []
  | .leay _ => []
  | .leau _ => []
  | .leas _ => []
  | .clr e => storeAt1 e s
  | .clra => []
  | .clrb => []
  | .adda _ => []
  | .addb _ => []
  | .addd _ => []
  | .adca _ => []
  | .adcb _ => []
  | .suba _ => []
  | .subb _ => []
  | .subd _ => []
  | .cmpa _ => []
  | .cmpb _ => []
  | .cmpd _ => []
  | .cmpx _ => []
  | .cmpy _ => []
  | .cmpu _ => []
  | .cmps _ => []
  | .neg e => storeAt1 e s
  | .nega => []
  | .negb => []
  | .inc e => storeAt1 e s
  | .inca => []
  | .incb => []
  | .dec e => storeAt1 e s
  | .deca => []
  | .decb => []
  | .asr e => storeAt1 e s
  | .asra => []
  | .asrb => []
  | .lsr e => storeAt1 e s
  | .lsra => []
  | .lsrb => []
  | .asl e => storeAt1 e s
  | .asla => []
  | .aslb => []
  | .com e => storeAt1 e s
  | .coma => []
  | .comb => []
  | .ora _ => []
  | .orb _ => []
  | .anda _ => []
  | .andb _ => []
  | .bita _ => []
  | .bitb _ => []
  | .orcc _ => []
  | .andcc _ => []
  | .tst _ => []
  | .tsta => []
  | .tstb => []
  | .jmp _ => []
  | .jsr e => callAt e s
  | .bsr _ => below s.sp 2
  | .lbsr _ => below s.sp 2
  | .rts => []
  | .nop => []
  | .bra _ => []
  | .brn _ => []
  | .bhi _ => []
  | .bls _ => []
  | .bcc _ => []
  | .bcs _ => []
  | .bne _ => []
  | .beq _ => []
  | .bvc _ => []
  | .bvs _ => []
  | .bpl _ => []
  | .bmi _ => []
  | .bge _ => []
  | .blt _ => []
  | .bgt _ => []
  | .ble _ => []
  | .lbra _ => []
  | .lbrn _ => []
  | .lbhi _ => []
  | .lbls _ => []
  | .lbcc _ => []
  | .lbcs _ => []
  | .lbne _ => []
  | .lbeq _ => []
  | .lbvc _ => []
  | .lbvs _ => []
  | .lbpl _ => []
  | .lbmi _ => []
  | .lbge _ => []
  | .lblt _ => []
  | .lbgt _ => []
  | .lble _ => []
  | .pshs m => below s.sp (listBytes m)
  | .puls _ => []
  | .pshu m => below s.u (listBytes m)
  | .pulu _ => []
  | .exg _ _ => []
  | .tfr _ _ => []
  | .eora _ => []
  | .eorb _ => []
  | .sbca _ => []
  | .sbcb _ => []
  | .rol e => storeAt1 e s
  | .rola => []
  | .rolb => []
  | .ror e => storeAt1 e s
  | .rora => []
  | .rorb => []
  | .mul => []
  | .sex => []
  | .abx => []
  | .daa => []
  | .swi => below s.sp 12
  | .swi2 => below s.sp 12
  | .swi3 => below s.sp 12
  | .rti => []
  | .cwai _ => below s.sp 12
  | .sync => []

/-- The register pushes, pulls and address computations that reach no byte of memory: an instruction with
no memory operand, no stack access and no vector. -/
def touchesNoMemory : Instr → Bool
  | .lda (.imm _) => true
  | .lda (.mem _) => false
  | .ldb (.imm _) => true
  | .ldb (.mem _) => false
  | .ldd (.imm _) => true
  | .ldd (.mem _) => false
  | .ldx (.imm _) => true
  | .ldx (.mem _) => false
  | .ldy (.imm _) => true
  | .ldy (.mem _) => false
  | .ldu (.imm _) => true
  | .ldu (.mem _) => false
  | .lds (.imm _) => true
  | .lds (.mem _) => false
  | .sta _ => false
  | .stb _ => false
  | .std _ => false
  | .stx _ => false
  | .sty _ => false
  | .stu _ => false
  | .sts _ => false
  | .leax _ => false
  | .leay _ => false
  | .leau _ => false
  | .leas _ => false
  | .clr _ => false
  | .clra => true
  | .clrb => true
  | .adda (.imm _) => true
  | .adda (.mem _) => false
  | .addb (.imm _) => true
  | .addb (.mem _) => false
  | .addd (.imm _) => true
  | .addd (.mem _) => false
  | .adca (.imm _) => true
  | .adca (.mem _) => false
  | .adcb (.imm _) => true
  | .adcb (.mem _) => false
  | .suba (.imm _) => true
  | .suba (.mem _) => false
  | .subb (.imm _) => true
  | .subb (.mem _) => false
  | .subd (.imm _) => true
  | .subd (.mem _) => false
  | .cmpa (.imm _) => true
  | .cmpa (.mem _) => false
  | .cmpb (.imm _) => true
  | .cmpb (.mem _) => false
  | .cmpd (.imm _) => true
  | .cmpd (.mem _) => false
  | .cmpx (.imm _) => true
  | .cmpx (.mem _) => false
  | .cmpy (.imm _) => true
  | .cmpy (.mem _) => false
  | .cmpu (.imm _) => true
  | .cmpu (.mem _) => false
  | .cmps (.imm _) => true
  | .cmps (.mem _) => false
  | .neg _ => false
  | .nega => true
  | .negb => true
  | .inc _ => false
  | .inca => true
  | .incb => true
  | .dec _ => false
  | .deca => true
  | .decb => true
  | .asr _ => false
  | .asra => true
  | .asrb => true
  | .lsr _ => false
  | .lsra => true
  | .lsrb => true
  | .asl _ => false
  | .asla => true
  | .aslb => true
  | .com _ => false
  | .coma => true
  | .comb => true
  | .ora (.imm _) => true
  | .ora (.mem _) => false
  | .orb (.imm _) => true
  | .orb (.mem _) => false
  | .anda (.imm _) => true
  | .anda (.mem _) => false
  | .andb (.imm _) => true
  | .andb (.mem _) => false
  | .bita (.imm _) => true
  | .bita (.mem _) => false
  | .bitb (.imm _) => true
  | .bitb (.mem _) => false
  | .orcc _ => true
  | .andcc _ => true
  | .tst _ => false
  | .tsta => true
  | .tstb => true
  | .jmp _ => false
  | .jsr _ => false
  | .bsr _ => false
  | .lbsr _ => false
  | .rts => false
  | .nop => true
  | .bra _ => true
  | .brn _ => true
  | .bhi _ => true
  | .bls _ => true
  | .bcc _ => true
  | .bcs _ => true
  | .bne _ => true
  | .beq _ => true
  | .bvc _ => true
  | .bvs _ => true
  | .bpl _ => true
  | .bmi _ => true
  | .bge _ => true
  | .blt _ => true
  | .bgt _ => true
  | .ble _ => true
  | .lbra _ => true
  | .lbrn _ => true
  | .lbhi _ => true
  | .lbls _ => true
  | .lbcc _ => true
  | .lbcs _ => true
  | .lbne _ => true
  | .lbeq _ => true
  | .lbvc _ => true
  | .lbvs _ => true
  | .lbpl _ => true
  | .lbmi _ => true
  | .lbge _ => true
  | .lblt _ => true
  | .lbgt _ => true
  | .lble _ => true
  | .pshs _ => false
  | .puls _ => false
  | .pshu _ => false
  | .pulu _ => false
  | .exg _ _ => true
  | .tfr _ _ => true
  | .eora (.imm _) => true
  | .eora (.mem _) => false
  | .eorb (.imm _) => true
  | .eorb (.mem _) => false
  | .sbca (.imm _) => true
  | .sbca (.mem _) => false
  | .sbcb (.imm _) => true
  | .sbcb (.mem _) => false
  | .rol _ => false
  | .rola => true
  | .rolb => true
  | .ror _ => false
  | .rora => true
  | .rorb => true
  | .mul => true
  | .sex => true
  | .abx => true
  | .daa => true
  | .swi => false
  | .swi2 => false
  | .swi3 => false
  | .rti => false
  | .cwai _ => false
  | .sync => true

/-! ## Flags in plain arithmetic -/

/-- CC went from `old` to `new`: the flags `w` names took the values it gives, every other kept its own. -/
def FlagsAre (old new : Byte) (w : Flag → Option Bool) : Prop :=
  ∀ g, flag g new = (w g).getD (flag g old)

/-- Only N, Z and V are written. -/
def onlyNZV (n z v : Bool) : Flag → Option Bool
  | .n => some n
  | .z => some z
  | .v => some v
  | _ => none

/-- Only N, Z and C are written. -/
def onlyNZC (n z c : Bool) : Flag → Option Bool
  | .n => some n
  | .z => some z
  | .c => some c
  | _ => none

/-- Only N and Z are written. -/
def onlyNZ (n z : Bool) : Flag → Option Bool
  | .n => some n
  | .z => some z
  | _ => none

/-- Only N, Z, V and C are written. -/
def onlyNZVC (n z v c : Bool) : Flag → Option Bool
  | .n => some n
  | .z => some z
  | .v => some v
  | .c => some c
  | _ => none

/-- Only H, N, Z, V and C are written. -/
def onlyHNZVC (h n z v c : Bool) : Flag → Option Bool
  | .h => some h
  | .n => some n
  | .z => some z
  | .v => some v
  | .c => some c
  | _ => none

/-- Only Z is written. -/
def onlyZ (z : Bool) : Flag → Option Bool
  | .z => some z
  | _ => none

/-- Only Z and C are written. -/
def onlyZC (z c : Bool) : Flag → Option Bool
  | .z => some z
  | .c => some c
  | _ => none

/-- The top bit of an 8-bit value is 1. -/
def neg8 (r : Byte) : Bool := decide (128 ≤ r.toNat)

/-- The top bit of a 16-bit value is 1. -/
def neg16 (r : Word) : Bool := decide (32768 ≤ r.toNat)

/-- An integer is outside the signed 8-bit range. -/
def outside8 (k : Int) : Bool := decide (k < -128 ∨ 127 < k)

/-- An integer is outside the signed 16-bit range. -/
def outside16 (k : Int) : Bool := decide (k < -32768 ∨ 32767 < k)

/-! ## Bytes in memory -/

/-- The bytes stand in memory from address `a` up, none of them in the VIA's page. -/
def HoldsBytes (s : State) : Word → List Byte → Prop
  | _, [] => True
  | a, v :: rest => s.peek a = some v ∧ HoldsBytes s (a + 1) rest

/-- No address of a list lies in the VIA's page. -/
def avoidsVia (bus : BusConfig) (as : List Word) : Bool := as.all fun a => region bus a != .via

/-- The byte of memory at an address; 0 in the VIA's page, where claims do not look. -/
def State.byteAt (s : State) (a : Word) : Byte := (s.peek a).getD 0

/-- The big-endian word of memory at an address (spec/20_memory.md R70). -/
def State.wordAt (s : State) (a : Word) : Word := joinBytes (s.byteAt a) (s.byteAt (a + 1))

/-- The `n` addresses from `a` up. -/
def upFrom (a : Word) : Nat → List Word
  | 0 => []
  | n + 1 => a :: upFrom (a + 1) n

/-- Every byte of memory reads as before. -/
def SameBytes (s t : State) : Prop := ∀ a, t.peek a = s.peek a

/-- Every byte of memory stored outside the given addresses reads as before. RAM is mirrored, so a byte is
known by its cell (spec/20_memory.md R66). -/
def SameBytesOutside (as : List Word) (s t : State) : Prop :=
  ∀ b, (∀ a ∈ as, cellKey s.cfg.bus b ≠ cellKey s.cfg.bus a) → t.peek b = s.peek b

/-- The VIA, the PSG and everything that only the host or the step loop changes. -/
def SameDevices (s t : State) : Prop :=
  t.via = s.via ∧ t.psg = s.psg ∧ t.pc0 = s.pc0 ∧ t.fault = s.fault ∧ t.budget = s.budget ∧
    t.buttons = s.buttons ∧ t.cfg = s.cfg

/-- The bytes of a register list below bit `k`: where the register of bit `k` stands above the new stack
pointer (spec/45_stack_transfer.md R345). -/
def listOffset (m : Byte) (k : Nat) : Word := BitVec.ofNat 16 (listBytes (m &&& BitVec.ofNat 8 (2 ^ k - 1)))

/-- The bytes of a register list, as a word. -/
def listSize (m : Byte) : Word := BitVec.ofNat 16 (listBytes m)

/-- The pairs of register list bits and registers stand in memory from `sp` up, as R345 lays them out, `p`
being the stack pointer that was used and `s` the state whose registers they are. -/
def ListStands (p : Stk) (m : Byte) (sp : Word) (s t : State) : Prop :=
  (m.getLsbD 0 = true → t.peek (sp + listOffset m 0) = some s.cc) ∧
  (m.getLsbD 1 = true → t.peek (sp + listOffset m 1) = some s.a) ∧
  (m.getLsbD 2 = true → t.peek (sp + listOffset m 2) = some s.b) ∧
  (m.getLsbD 3 = true → t.peek (sp + listOffset m 3) = some s.dp) ∧
  (m.getLsbD 4 = true → t.wordAt (sp + listOffset m 4) = s.x) ∧
  (m.getLsbD 5 = true → t.wordAt (sp + listOffset m 5) = s.y) ∧
  (m.getLsbD 6 = true → t.wordAt (sp + listOffset m 6) = s.get16 (otherStk p)) ∧
  (m.getLsbD 7 = true → t.wordAt (sp + listOffset m 7) = s.pc)

/-! ## Shapes of claims -/

/-- Every configuration executes the base set. -/
def always (_ : Config) : Prop := True

/-- The configurations that execute the extension set (spec/46_extension.md R370). -/
def extended (c : Config) : Prop := c.extendedSet = true

/-- The instruction completes wherever its 8-bit operand can be read: from the state `t` that reading the
operand `v` left, the registers go to `upd t v` and CC changes as `fl t v` says. Nothing else changes. -/
def Completes8 (g : Config → Prop) (k : Src8 → Instr) (upd : State → Byte → State)
    (fl : State → Byte → Flag → Option Bool) : Prop :=
  ∀ (m : Src8) (s t : State) (v : Byte), g s.cfg → readOperand8 m (start (k m) s) = .ok v t →
    ∃ cc, exec (k m) s = .next ((upd t v).withCC cc) ∧ FlagsAre t.cc cc (fl t v)

/-- As `Completes8` for a 16-bit operand. -/
def Completes16 (g : Config → Prop) (k : Src16 → Instr) (upd : State → Word → State)
    (fl : State → Word → Flag → Option Bool) : Prop :=
  ∀ (m : Src16) (s t : State) (v : Word), g s.cfg → readOperand16 m (start (k m) s) = .ok v t →
    ∃ cc, exec (k m) s = .next ((upd t v).withCC cc) ∧ FlagsAre t.cc cc (fl t v)

/-- The instruction completes in every state that the configuration lets run it: the registers go to
`upd s`, the cycle count is the instruction's base, and CC changes as `fl s` says. Nothing else changes. -/
def CompletesInh (g : Config → Prop) (i : Instr) (upd : State → State)
    (fl : State → Flag → Option Bool) : Prop :=
  ∀ s : State, g s.cfg →
    ∃ cc, exec i s = .next ((upd (start i s)).withCC cc) ∧ FlagsAre s.cc cc (fl s)

/-- The read-modify-write completes wherever its address can be computed, the byte there read and the result
written: one read of `v` leaves `u`, one write of `f u v` leaves `w`, and CC changes as `fl u v` says. -/
def CompletesRmw (g : Config → Prop) (k : Ea → Instr) (f : State → Byte → Byte)
    (fl : State → Byte → Flag → Option Bool) : Prop :=
  ∀ (e : Ea) (s t u w : State) (ea : Word) (v : Byte), g s.cfg →
    effAddr e (start (k e) s) = .ok ea t → read8 ea t = .ok v u → write8 ea (f u v) u = .ok ⟨⟩ w →
    ∃ cc, exec (k e) s = .next (w.withCC cc) ∧ FlagsAre u.cc cc (fl u v)

/-- A store of an 8-bit register completes wherever its address can be computed and the value written; N and
Z are the value's and V is 0. -/
def CompletesStore8 (k : Ea → Instr) (r : Reg8) : Prop :=
  ∀ (e : Ea) (s t u : State) (ea : Word), effAddr e (start (k e) s) = .ok ea t →
    write8 ea (t.get8 r) t = .ok ⟨⟩ u →
    ∃ cc, exec (k e) s = .next (u.withCC cc) ∧
      FlagsAre t.cc cc (onlyNZV (neg8 (t.get8 r)) (t.get8 r == 0) false)

/-- A store of a 16-bit register: the high byte at the address, the low byte after it. -/
def CompletesStore16 (k : Ea → Instr) (r : Reg16) : Prop :=
  ∀ (e : Ea) (s t u w : State) (ea : Word), effAddr e (start (k e) s) = .ok ea t →
    write8 ea (hiByte (t.get16 r)) t = .ok ⟨⟩ u → write8 (ea + 1) (loByte (t.get16 r)) u = .ok ⟨⟩ w →
    ∃ cc, exec (k e) s = .next (w.withCC cc) ∧
      FlagsAre t.cc cc (onlyNZV (neg16 (t.get16 r)) (t.get16 r == 0) false)

/-- A store of an 8-bit register, in canonical memory: where its address is one that keeps what is stored, the
store completes, the byte there reads as the register's and every other byte reads as before. -/
def Reaches8 (k : Ea → Instr) (r : Reg8) : Prop :=
  ∀ (e : Ea) (s t : State) (ea : Word), s.mem.wf = true → effAddr e (start (k e) s) = .ok ea t →
    storable s.cfg.bus ea = true →
    ∃ u, exec (k e) s = .next u ∧ u.peek ea = some (t.get8 r) ∧ SameBytesOutside [ea] s u

/-- A store of a 16-bit register: the two bytes read as the register's big-endian word. -/
def Reaches16 (k : Ea → Instr) (r : Reg16) : Prop :=
  ∀ (e : Ea) (s t : State) (ea : Word), s.mem.wf = true → effAddr e (start (k e) s) = .ok ea t →
    storable s.cfg.bus ea = true → storable s.cfg.bus (ea + 1) = true →
    ∃ u, exec (k e) s = .next u ∧ u.wordAt ea = t.get16 r ∧ SameBytesOutside [ea, ea + 1] s u

/-- A branch completes in every state: to the target and with the taken cycles where its condition on CC
holds, and with no effect beyond its cycles where it does not. -/
def CompletesBranch (i : Instr) (off : Word) (taken : Byte → Bool) : Prop :=
  ∀ s : State, exec i s = .next
    (if taken s.cc then
      ((start i s).withPC (s.pc + off)).withCyc (baseCycles s.cfg i + s.cfg.branchTakenExtra)
    else start i s)

/-- An indexed mode with and without its final indirection: `ea` is the address before it, `upd` the register
update, `c` the cycles; the indirection reads two bytes of memory and costs 3 more (spec/40_addressing.md R142). -/
def IndexedIs (x : Bool → Idx) (ea : State → Word) (upd : State → State) (c : Nat) : Prop :=
  ∀ s : State, indexedEa (x false) s = .ok (ea s) ((upd s).withCyc (s.cyc + c)) ∧
    ((s.peek (ea s)).isSome → (s.peek (ea s + 1)).isSome →
      indexedEa (x true) s = .ok (s.wordAt (ea s)) ((upd s).withCyc (s.cyc + c + 3)))

/-- Taking an exception, from `s` to `t` (spec/46_extension.md R385, spec/60_exceptions.md R433): CC as `fl` says,
S down by the 12 bytes of the register set with E set in the CC among them, PC the word at the vector, and
every other register and the devices as they were. -/
def EntryEffect (fl : Flag → Option Bool) (vector : Word) (cycles : Nat) (s t : State) : Prop :=
  FlagsAre s.cc t.cc fl ∧ t.sp = s.sp - 12 ∧ t.pc = t.wordAt vector ∧ t.cyc = cycles ∧ t.a = s.a ∧
    t.b = s.b ∧ t.dp = s.dp ∧ t.x = s.x ∧ t.y = s.y ∧ t.u = s.u ∧ t.wait = s.wait ∧ SameDevices s t ∧
    SameBytesOutside (below s.sp 12) s t ∧
    (s.mem.wf = true → (below s.sp 12).all (storable s.cfg.bus) = true →
      ∃ cc, FlagsAre s.cc cc (fun g => if g = .e then some true else none) ∧
        ListStands .s 0xFF (s.sp - 12) (s.withCC cc) t)

/-- A 7-bit flag register as a byte with bit 7 clear. -/
def zeroTop (v : BitVec 7) : Byte := v.zeroExtend 8

/-- The DAC's value reached the channel that Port B selects and nothing else changed
(spec/60_exceptions.md R443). -/
def Routed (v w : Via) : Prop :=
  (v.orb.getLsbD 0 = true → w = { v with vx := v.ora }) ∧
  (v.orb.getLsbD 0 = false → v.orb.toNat / 2 % 4 = 0 → w = { v with vy := v.ora }) ∧
  (v.orb.getLsbD 0 = false → v.orb.toNat / 2 % 4 = 1 → w = { v with offset := v.ora }) ∧
  (v.orb.getLsbD 0 = false → v.orb.toNat / 2 % 4 = 2 → w = { v with brightness := v.ora }) ∧
  (v.orb.getLsbD 0 = false → v.orb.toNat / 2 % 4 = 3 → w = v)

/-- The beam went from where it stands in `v` to where it stands in `w` by integration over `n` cycles with gain
`k`, on unsigned bytes (spec/60_exceptions.md R453, R487). -/
def MovedBy (k : Rat) (v w : Via) (n : Nat) : Prop :=
  w.posX = v.posX + k * ((v.vx.toNat : Int) - 128 - (v.offset.toNat : Int) : Int) * (n : Rat) ∧
  w.posY = v.posY + k * ((v.vy.toNat : Int) - 128 - (v.offset.toNat : Int) : Int) * (n : Rat)

/-- One tick of a tone generator whose period registers hold `low` and `high` (spec/60_exceptions.md R464). -/
def ToneSteps (low high : Byte) (t u : Tone) : Prop :=
  (t.cnt.toNat ≤ 1 → u.cnt.toNat = 256 * (high.toNat % 16) + low.toNat ∧ u.out = !t.out) ∧
  (1 < t.cnt.toNat → u.cnt.toNat = t.cnt.toNat - 1 ∧ u.out = t.out)

/-- What a channel adds to a sample: 0 where its mixer bit is 1 or its output 0, else the fixed volume of its
amplitude register, or the level `e` in envelope mode (spec/60_exceptions.md R466 to R468). -/
def soundOf (mixerBit out : Bool) (amp : Byte) (e : Rat) : Rat :=
  if mixerBit = false ∧ out = true then
    if amp.getLsbD 4 then e else ((amp.toNat % 16 : Nat) : Rat) / 16
  else 0

end Sys2Proof.Machine
end

