-- ==== Sys2Proof/Certificates/Slice0/Obligations.lean ====
section
/-!
DEFINITION. The statements for the provers: what the model is claimed to do, in the terms of Safety.lean.
-/

open Sys2Proof Sys2Proof.Machine

/-- For every well-formed instruction, with every operand at every value, and any bytes after it: the decoder
reads the instruction from its encoding and leaves exactly the bytes after it. (30_encoding.md R100 to R114;
40_addressing.md R140; 45_stack_transfer.md R350) -/
def Obligations.DecodeEncodeRoundTrip : Prop :=
  ∀ (i : Instr) (rest : List Byte), i.wellFormed = true → decode (encode i ++ rest) = .ok (i, rest)

/-- Whenever the decoder answers an instruction, it is well formed, it took between 1 and 5 bytes off the front,
as many as the instruction encodes to, and the same bytes before any others decode to the same instruction.
(30_encoding.md R100; 30_encoding.md R119) -/
def Obligations.DecodeConsumesItsBytes : Prop :=
  ∀ (bs rest : List Byte) (i : Instr), decode bs = .ok (i, rest) →
    i.wellFormed = true ∧ ∃ used, bs = used ++ rest ∧ used.length = (encode i).length ∧
      1 ≤ used.length ∧ used.length ≤ 5 ∧ ∀ rest', decode (used ++ rest') = .ok (i, rest')

/-- A word of every family, written out from the opcode maps, decodes to its instruction: LDA immediate, STD
extended, LEAX, ADDD, CMPS indexed, ASL direct, ORCC, LBEQ, BSR, PSHS, EXG, MUL, SWI2, and a prefix after a
prefix is illegal. (30_encoding.md R110 to R112; 40_addressing.md R140; 45_stack_transfer.md R350) -/
def Obligations.DecodeSampleWords : Prop :=
  decode [0x86, 0x05] = .ok (.lda (.imm 0x05), []) ∧
  decode [0xFD, 0xC8, 0x80] = .ok (.std (.ext 0xC880), []) ∧
  decode [0x30, 0x1F] = .ok (.leax (.off5 .x 0x1F), []) ∧
  decode [0xC3, 0x12, 0x34] = .ok (.addd (.imm 0x1234), []) ∧
  decode [0x11, 0xAC, 0xA1] = .ok (.cmps (.mem (.idx (.inc2 .y false))), []) ∧
  decode [0x08, 0x50] = .ok (.asl (.dir 0x50), []) ∧
  decode [0x1A, 0x50] = .ok (.orcc 0x50, []) ∧
  decode [0x10, 0x27, 0x01, 0x00] = .ok (.lbeq 0x0100, []) ∧
  decode [0x8D, 0x10] = .ok (.bsr 0x10, []) ∧
  decode [0x34, 0x06] = .ok (.pshs 0x06, []) ∧
  decode [0x1E, 0x89] = .ok (.exg (.r8 .a) (.r8 .b), []) ∧
  decode [0x3D] = .ok (.mul, []) ∧
  decode [0x10, 0x3F] = .ok (.swi2, []) ∧
  decode [0x10, 0x10, 0x27] = .error (.illegalOpcode .p1 0x10)

/-- In a state with no fault, no wait and no IRQ to take, whose bytes at PC decode to an instruction that the
configuration executes: the step is exec of that instruction, from the state with pc0 at its first byte, the
cycle count 0 and PC after its bytes; a next state then goes through the device updates, the budget and the
interrupt poll. (60_exceptions.md R470; 30_encoding.md R102; 00_scope.md R11) -/
def Obligations.StepRunsDecodedInstruction : Prop :=
  ∀ (s : State) (i : Instr) (bs : List Byte), s.fault = none → s.wait = .none → irqTaken s = false →
    decode bs = .ok (i, []) → HoldsBytes s s.pc bs →
    (∀ row, lookup (opcodeOf i).1 (opcodeOf i).2 = some row → tierAllowed s.cfg row.tier = true) →
    step s =
      match exec i (((s.withPc0 s.pc).withCyc 0).withPC (s.pc + BitVec.ofNat 16 bs.length)) with
      | .next t => finish poll (spendBudget (advanceDevices t))
      | .fault r => .fault r
      | .refused r => .refused r

/-- With no page byte and with one: where the opcode has no row the step faults with IllegalOpcode, where its
row is not executed by the configuration it faults with UnimplementedOpcode; PC stands after the opcode byte
and nothing else but the step's own pc0 and cycle count has changed. (60_exceptions.md R413;
60_exceptions.md R414; 46_extension.md R370; 30_encoding.md R101; 30_encoding.md R115) -/
def Obligations.StepFaultsOnOpcodeWithoutMeaning : Prop :=
  ∀ (s : State) (bs : List Byte) (p : Page) (op : Byte) (k : FaultKind), s.fault = none → s.wait = .none →
    irqTaken s = false → HoldsBytes s s.pc bs →
    (bs = [op] ∧ pageOf op = none ∧ p = .p0 ∨ bs = [0x10, op] ∧ p = .p1 ∨ bs = [0x11, op] ∧ p = .p2) →
    (lookup p op = none ∧ k = .illegalOpcode p op ∨
      ∃ row, lookup p op = some row ∧ tierAllowed s.cfg row.tier = false ∧ k = .unimplementedOpcode p op) →
    step s = .fault (.fatal ⟨k, s.pc⟩
      ((((s.withPc0 s.pc).withCyc 0).withPC (s.pc + BitVec.ofNat 16 bs.length)).withFault
        (some ⟨k, s.pc⟩)))

/-- For an executed opcode of any page: an indexed post-byte with bit 7 set and submode 0111, 1010 or 1110
faults with IllegalIndexedMode, and a register pair of two widths or with a nibble 6, 7 or 12 to 15 faults
with IllegalRegisterTransfer; PC stands after the post-byte and no other register has changed.
(60_exceptions.md R415; 60_exceptions.md R416; 40_addressing.md R141; 45_stack_transfer.md R350) -/
def Obligations.StepFaultsOnIllegalPostByte : Prop :=
  ∀ (s : State) (bs : List Byte) (p : Page) (op pp : Byte) (row : Row), s.fault = none → s.wait = .none →
    irqTaken s = false → HoldsBytes s s.pc bs →
    (bs = [op, pp] ∧ pageOf op = none ∧ p = .p0 ∨ bs = [0x10, op, pp] ∧ p = .p1 ∨
      bs = [0x11, op, pp] ∧ p = .p2) →
    lookup p op = some row → tierAllowed s.cfg row.tier = true →
    ((∃ k, row.form = .idx k) → pp.getLsbD 7 = true →
      (lowNibble pp = 7 ∨ lowNibble pp = 10 ∨ lowNibble pp = 14) →
      step s = .fault (.fatal ⟨.illegalIndexedMode pp, s.pc⟩
        ((((s.withPc0 s.pc).withCyc 0).withPC (s.pc + BitVec.ofNat 16 bs.length)).withFault
          (some ⟨.illegalIndexedMode pp, s.pc⟩)))) ∧
    ((∃ k, row.form = .regpair k) →
      (pp.getLsbD 3 ≠ pp.getLsbD 7 ∨ lowNibble pp = 6 ∨ lowNibble pp = 7 ∨ 12 ≤ (lowNibble pp).toNat ∨
        highNibble pp = 6 ∨ highNibble pp = 7 ∨ 12 ≤ (highNibble pp).toNat) →
      step s = .fault (.fatal ⟨.illegalRegisterTransfer pp, s.pc⟩
        ((((s.withPc0 s.pc).withCyc 0).withPC (s.pc + BitVec.ofNat 16 bs.length)).withFault
          (some ⟨.illegalRegisterTransfer pp, s.pc⟩))))

/-- Once the fault record is set, a step answers that fault again with the whole state unchanged, devices
included, and the frame loop runs no step; a reset clears the record. That a step of a faulted machine
answers the fault again, rather than a next state, is the model's choice (log 3, DESIGN CHOICE); that
nothing changes is R411 and R470, and that reset clears the record is R500. (60_exceptions.md R411;
60_exceptions.md R470; 70_reset_and_hazards.md R500; notes/assumptions/3.md) -/
def Obligations.FaultIsSticky : Prop :=
  ∀ (s : State) (r : FaultRecord) (pc : Word), s.fault = some r →
    step s = .fault (.fatal r s) ∧ (∀ n q, frameLoop n q s = s) ∧ (resetTo pc s).fault = none

/-- When a step of a machine with no fault faults, the recorded pc0 is the PC the step started from, the state
it leaves holds that record, and the configuration and the buttons are unchanged. The recorded address is
R480; that a fault hands over the state it left, and that the state keeps pc0 and the parameters, are the
model's choices (logs 3, 6 and 1). The record's kind and info are not spoken of here. (60_exceptions.md
R480; 60_exceptions.md R470; 60_exceptions.md R474; 00_scope.md R6; notes/assumptions/1.md;
notes/assumptions/3.md; notes/assumptions/6.md) -/
def Obligations.FaultRecordNamesInstruction : Prop :=
  ∀ (s t : State) (r : FaultRecord), s.fault = none → step s = .fault (.fatal r t) →
    r.pc0 = s.pc ∧ t.fault = some r ∧ t.pc0 = s.pc ∧ t.cfg = s.cfg ∧ t.buttons = s.buttons

/-- The state after reset meets the invariant Safe: canonical memory, supported ACR and PCR, consistent timers,
masked PSG registers, no wait, no interrupt enabled, no base count 0. (10_state.md R43;
70_reset_and_hazards.md R505) -/
def Obligations.ResetIsSafe : Prop :=
  Safe State.reset

/-- From every state that meets Safe, a step that answers a next state answers one that meets Safe: memory keeps
its canonical form and lists only addresses that hold a byte; ACR bits 6-5 stay 00 and IFR bits 4 to 0 stay
0; PCR, /ZERO and /BLANK agree; /ZERO holds the beam at the origin with no lines; PB7 follows Timer1; only
lit segments are drawn; PSG registers stay inside their masks, the divider below 16, samples between 0 and
1/6, the mode that of Port B; only a configuration that executes CWAI and SYNC waits; under ignore IER stays
0; no base count is 0. (60_exceptions.md R430 to R468; 20_memory.md R62 to R69; 10_state.md R40 to R42) -/
def Obligations.StepKeepsSafe : Prop :=
  ∀ s t : State, Safe s → step s = .next t → Safe t

/-- From every state that meets Safe, a step that faults leaves a state that meets Safe. Which state a fault
leaves is the model's choice (log 3, DESIGN CHOICE): R13 specifies none, and R418 only says that a model
need not undo a partial effect. (60_exceptions.md R417; 60_exceptions.md R418; 00_scope.md R13;
notes/assumptions/3.md) -/
def Obligations.FaultLeavesSafe : Prop :=
  ∀ (s t : State) (r : FaultRecord), Safe s → step s = .fault (.fatal r t) → Safe t

/-- In every state that meets Safe with no fault, under ignore: the IRQ line is not asserted, no IRQ is taken,
and once the first part of the step has answered a next state the end of the step answers one too, so
UnmodelledInterrupt cannot occur. (60_exceptions.md R481; 60_exceptions.md R486) -/
def Obligations.PollNeverFaultsUnderIgnore : Prop :=
  ∀ s : State, Safe s → s.cfg.viaFlagWrites = .ignore → s.fault = none →
    s.irqLine = false ∧ irqTaken s = false ∧
      ∀ t, stepBody (beginStep s) = .next t → ∃ u, step s = .next u

/-- Where no base count of the configured table is 0, which Safe has as a part: a step that answers a next state
has spent at least 1 cycle; the budget is smaller by the cycles it spent, whatever the table.
(70_reset_and_hazards.md R511; 60_exceptions.md R470) -/
def Obligations.StepSpendsCycles : Prop :=
  ∀ s t : State, step s = .next t → (s.cfg.cyclesPositive = true → 1 ≤ t.cyc) ∧ t.budget = s.budget - (t.cyc : Rat)

/-- Wherever its operand can be read, in every mode, a load completes: the register takes the operand, N and Z
are the operand's, V is 0, and every other flag and all else is as reading the operand left it.
(41_load_store.md R170 to R177) -/
def Obligations.LoadsComplete : Prop :=
  Completes8 always .lda (fun t v => t.set8 .a v) (fun _ v => onlyNZV (neg8 v) (v == 0) false) ∧
  Completes8 always .ldb (fun t v => t.set8 .b v) (fun _ v => onlyNZV (neg8 v) (v == 0) false) ∧
  Completes16 always .ldd (fun t v => (t.set8 .a (hiByte v)).set8 .b (loByte v))
    (fun _ v => onlyNZV (neg16 v) (v == 0) false) ∧
  Completes16 always .ldx (fun t v => t.set16 .x v) (fun _ v => onlyNZV (neg16 v) (v == 0) false) ∧
  Completes16 always .ldy (fun t v => t.set16 .y v) (fun _ v => onlyNZV (neg16 v) (v == 0) false) ∧
  Completes16 always .ldu (fun t v => t.set16 .u v) (fun _ v => onlyNZV (neg16 v) (v == 0) false) ∧
  Completes16 always .lds (fun t v => t.set16 .s v) (fun _ v => onlyNZV (neg16 v) (v == 0) false)

/-- Wherever its address can be computed and the value written there, in every mode, a store completes: the
register as the addressing mode leaves it is stored, the high byte first for 16 bits; N and Z are the
value's, V is 0, and nothing else changes. (41_load_store.md R170; 41_load_store.md R178 to R184;
40_addressing.md R148; 40_addressing.md R150) -/
def Obligations.StoresComplete : Prop :=
  CompletesStore8 .sta .a ∧ CompletesStore8 .stb .b ∧ CompletesStore16 .std .d ∧
  CompletesStore16 .stx .x ∧ CompletesStore16 .sty .y ∧ CompletesStore16 .stu .u ∧
  CompletesStore16 .sts .s

/-- Where the address computed for STA, STB, STD, STX, STY, STU or STS names bytes of RAM, or of the flat bus,
the store completes in every such state of canonical memory, the stored bytes then read as the register's,
the high byte at the lower address, and every other byte of memory reads as before. (41_load_store.md R178
to R184; 20_memory.md R66; 20_memory.md R69; 20_memory.md R70; 40_addressing.md R150) -/
def Obligations.StoresReachMemory : Prop :=
  Reaches8 .sta .a ∧ Reaches8 .stb .b ∧ Reaches16 .std .d ∧ Reaches16 .stx .x ∧ Reaches16 .sty .y ∧
  Reaches16 .stu .u ∧ Reaches16 .sts .s

/-- Wherever its indexed address can be computed, in every submode, a load of an effective address completes:
the register takes the address; LEAX and LEAY set Z from it and keep every other flag, LEAU and LEAS keep
all of CC. (41_load_store.md R185 to R188) -/
def Obligations.LeaComplete : Prop :=
  ∀ (x : Idx) (s t : State) (ea : Word),
    (indexedEa x (start (.leax x) s) = .ok ea t →
      ∃ cc, exec (.leax x) s = .next ((t.set16 .x ea).withCC cc) ∧ FlagsAre t.cc cc (onlyZ (ea == 0))) ∧
    (indexedEa x (start (.leay x) s) = .ok ea t →
      ∃ cc, exec (.leay x) s = .next ((t.set16 .y ea).withCC cc) ∧ FlagsAre t.cc cc (onlyZ (ea == 0))) ∧
    (indexedEa x (start (.leau x) s) = .ok ea t → exec (.leau x) s = .next (t.set16 .u ea)) ∧
    (indexedEa x (start (.leas x) s) = .ok ea t → exec (.leas x) s = .next (t.set16 .s ea))

/-- Wherever its operand can be read, an 8-bit addition completes: the accumulator takes the sum, with the carry
in for ADC; C is the carry out of bit 7, H that out of bit 3, V says that the signed sum is outside -128 to
127, N and Z are the result's, and E, F and I are kept. (42_arithmetic.md R200; 42_arithmetic.md R204;
42_arithmetic.md R208; 42_arithmetic.md R209; 42_arithmetic.md R211; 42_arithmetic.md R212) -/
def Obligations.AddComplete : Prop :=
  Completes8 always .adda (fun t v => t.set8 .a (BitVec.ofNat 8 (t.a.toNat + v.toNat)))
    (fun t v => onlyHNZVC (decide (15 < t.a.toNat % 16 + v.toNat % 16))
      (neg8 (BitVec.ofNat 8 (t.a.toNat + v.toNat)))
      (BitVec.ofNat 8 (t.a.toNat + v.toNat) == 0)
      (outside8 (t.a.toInt + v.toInt))
      (decide (255 < t.a.toNat + v.toNat))) ∧
  Completes8 always .addb (fun t v => t.set8 .b (BitVec.ofNat 8 (t.b.toNat + v.toNat)))
    (fun t v => onlyHNZVC (decide (15 < t.b.toNat % 16 + v.toNat % 16))
      (neg8 (BitVec.ofNat 8 (t.b.toNat + v.toNat)))
      (BitVec.ofNat 8 (t.b.toNat + v.toNat) == 0)
      (outside8 (t.b.toInt + v.toInt))
      (decide (255 < t.b.toNat + v.toNat))) ∧
  Completes8 always .adca (fun t v => t.set8 .a (BitVec.ofNat 8 (t.a.toNat + v.toNat + (flag .c t.cc).toNat)))
    (fun t v => onlyHNZVC (decide (15 < t.a.toNat % 16 + v.toNat % 16 + (flag .c t.cc).toNat))
      (neg8 (BitVec.ofNat 8 (t.a.toNat + v.toNat + (flag .c t.cc).toNat)))
      (BitVec.ofNat 8 (t.a.toNat + v.toNat + (flag .c t.cc).toNat) == 0)
      (outside8 (t.a.toInt + v.toInt + (flag .c t.cc).toNat))
      (decide (255 < t.a.toNat + v.toNat + (flag .c t.cc).toNat))) ∧
  Completes8 always .adcb (fun t v => t.set8 .b (BitVec.ofNat 8 (t.b.toNat + v.toNat + (flag .c t.cc).toNat)))
    (fun t v => onlyHNZVC (decide (15 < t.b.toNat % 16 + v.toNat % 16 + (flag .c t.cc).toNat))
      (neg8 (BitVec.ofNat 8 (t.b.toNat + v.toNat + (flag .c t.cc).toNat)))
      (BitVec.ofNat 8 (t.b.toNat + v.toNat + (flag .c t.cc).toNat) == 0)
      (outside8 (t.b.toInt + v.toInt + (flag .c t.cc).toNat))
      (decide (255 < t.b.toNat + v.toNat + (flag .c t.cc).toNat)))

/-- Wherever its operand can be read (SBC where the extension set executes), an 8-bit subtraction completes: the
accumulator takes the difference (CMP writes none), with the borrow in for SBC; C is the borrow, V says that
the signed difference is outside -128 to 127, N and Z are the difference's, and H, E, F and I are kept.
(42_arithmetic.md R202; 42_arithmetic.md R204; 42_arithmetic.md R213; 42_arithmetic.md R214;
42_arithmetic.md R216; 42_arithmetic.md R217; 46_extension.md R373; 46_extension.md R374) -/
def Obligations.SubtractAndCompareComplete : Prop :=
  Completes8 always .suba (fun t v => t.set8 .a (BitVec.ofInt 8 (t.a.toNat - v.toNat)))
    (fun t v => onlyNZVC (neg8 (BitVec.ofInt 8 (t.a.toNat - v.toNat)))
      (BitVec.ofInt 8 (t.a.toNat - v.toNat) == 0)
      (outside8 (t.a.toInt - v.toInt))
      (decide (t.a.toNat < v.toNat))) ∧
  Completes8 always .subb (fun t v => t.set8 .b (BitVec.ofInt 8 (t.b.toNat - v.toNat)))
    (fun t v => onlyNZVC (neg8 (BitVec.ofInt 8 (t.b.toNat - v.toNat)))
      (BitVec.ofInt 8 (t.b.toNat - v.toNat) == 0)
      (outside8 (t.b.toInt - v.toInt))
      (decide (t.b.toNat < v.toNat))) ∧
  Completes8 always .cmpa (fun t _ => t)
    (fun t v => onlyNZVC (neg8 (BitVec.ofInt 8 (t.a.toNat - v.toNat)))
      (BitVec.ofInt 8 (t.a.toNat - v.toNat) == 0)
      (outside8 (t.a.toInt - v.toInt))
      (decide (t.a.toNat < v.toNat))) ∧
  Completes8 always .cmpb (fun t _ => t)
    (fun t v => onlyNZVC (neg8 (BitVec.ofInt 8 (t.b.toNat - v.toNat)))
      (BitVec.ofInt 8 (t.b.toNat - v.toNat) == 0)
      (outside8 (t.b.toInt - v.toInt))
      (decide (t.b.toNat < v.toNat))) ∧
  Completes8 extended .sbca (fun t v => t.set8 .a (BitVec.ofInt 8 (t.a.toNat - v.toNat - (flag .c t.cc).toNat)))
    (fun t v => onlyNZVC (neg8 (BitVec.ofInt 8 (t.a.toNat - v.toNat - (flag .c t.cc).toNat)))
      (BitVec.ofInt 8 (t.a.toNat - v.toNat - (flag .c t.cc).toNat) == 0)
      (outside8 (t.a.toInt - v.toInt - (flag .c t.cc).toNat))
      (decide (t.a.toNat < v.toNat + (flag .c t.cc).toNat))) ∧
  Completes8 extended .sbcb (fun t v => t.set8 .b (BitVec.ofInt 8 (t.b.toNat - v.toNat - (flag .c t.cc).toNat)))
    (fun t v => onlyNZVC (neg8 (BitVec.ofInt 8 (t.b.toNat - v.toNat - (flag .c t.cc).toNat)))
      (BitVec.ofInt 8 (t.b.toNat - v.toNat - (flag .c t.cc).toNat) == 0)
      (outside8 (t.b.toInt - v.toInt - (flag .c t.cc).toNat))
      (decide (t.b.toNat < v.toNat + (flag .c t.cc).toNat)))

/-- Wherever its operand can be read, a 16-bit addition, subtraction or compare completes: D takes the sum or
difference (a compare writes no register); C is the carry out of bit 15 or the borrow, V says that the
signed result is outside -32768 to 32767, N and Z are the result's, and H, E, F and I are kept.
(42_arithmetic.md R201; 42_arithmetic.md R203; 42_arithmetic.md R204; 42_arithmetic.md R210;
42_arithmetic.md R215; 42_arithmetic.md R218 to R222) -/
def Obligations.WordArithmeticComplete : Prop :=
  Completes16 always .addd (fun t v => t.set16 .d (BitVec.ofNat 16 (t.d.toNat + v.toNat)))
    (fun t v => onlyNZVC (neg16 (BitVec.ofNat 16 (t.d.toNat + v.toNat)))
      (BitVec.ofNat 16 (t.d.toNat + v.toNat) == 0) (outside16 (t.d.toInt + v.toInt))
      (decide (65535 < t.d.toNat + v.toNat))) ∧
  Completes16 always .subd (fun t v => t.set16 .d (BitVec.ofInt 16 (t.d.toNat - v.toNat)))
    (fun t v => onlyNZVC (neg16 (BitVec.ofInt 16 (t.d.toNat - v.toNat)))
      (BitVec.ofInt 16 (t.d.toNat - v.toNat) == 0) (outside16 (t.d.toInt - v.toInt))
      (decide (t.d.toNat < v.toNat))) ∧
  Completes16 always .cmpd (fun t _ => t)
    (fun t v => onlyNZVC (neg16 (BitVec.ofInt 16 (t.d.toNat - v.toNat)))
      (BitVec.ofInt 16 (t.d.toNat - v.toNat) == 0) (outside16 (t.d.toInt - v.toInt))
      (decide (t.d.toNat < v.toNat))) ∧
  Completes16 always .cmpx (fun t _ => t)
    (fun t v => onlyNZVC (neg16 (BitVec.ofInt 16 (t.x.toNat - v.toNat)))
      (BitVec.ofInt 16 (t.x.toNat - v.toNat) == 0) (outside16 (t.x.toInt - v.toInt))
      (decide (t.x.toNat < v.toNat))) ∧
  Completes16 always .cmpy (fun t _ => t)
    (fun t v => onlyNZVC (neg16 (BitVec.ofInt 16 (t.y.toNat - v.toNat)))
      (BitVec.ofInt 16 (t.y.toNat - v.toNat) == 0) (outside16 (t.y.toInt - v.toInt))
      (decide (t.y.toNat < v.toNat))) ∧
  Completes16 always .cmpu (fun t _ => t)
    (fun t v => onlyNZVC (neg16 (BitVec.ofInt 16 (t.u.toNat - v.toNat)))
      (BitVec.ofInt 16 (t.u.toNat - v.toNat) == 0) (outside16 (t.u.toInt - v.toInt))
      (decide (t.u.toNat < v.toNat))) ∧
  Completes16 always .cmps (fun t _ => t)
    (fun t v => onlyNZVC (neg16 (BitVec.ofInt 16 (t.sp.toNat - v.toNat)))
      (BitVec.ofInt 16 (t.sp.toNat - v.toNat) == 0) (outside16 (t.sp.toInt - v.toInt))
      (decide (t.sp.toNat < v.toNat)))

/-- In every state: CLR gives 0 with N = V = C = 0 and Z = 1; NEG gives the two's complement, V for 0x80, C for
any value but 0; INC adds 1 and DEC subtracts 1 modulo 256, C kept, V of INC by the configured rule (the
result 0 under document, the operand 0x7F under mc6809), V of DEC for the operand 0x80. Nothing else
changes. (42_arithmetic.md R206; 42_arithmetic.md R207; 42_arithmetic.md R224; 42_arithmetic.md R225;
42_arithmetic.md R226 to R228; 42_arithmetic.md R230; 42_arithmetic.md R231) -/
def Obligations.AccumulatorArithmeticComplete : Prop :=
  CompletesInh always .clra (fun s => s.set8 .a (0)) (fun _ => onlyNZVC false true false false) ∧
  CompletesInh always .nega (fun s => s.set8 .a (BitVec.ofInt 8 (-s.a.toNat))) (fun s => onlyNZVC (neg8 (BitVec.ofInt 8 (-s.a.toNat))) (s.a == 0) (s.a == 0x80) (s.a != 0)) ∧
  CompletesInh always .inca (fun s => s.set8 .a (BitVec.ofNat 8 (s.a.toNat + 1))) (fun s => onlyNZV (neg8 (BitVec.ofNat 8 (s.a.toNat + 1))) (s.a == 0xFF)
      (match s.cfg.incVRule with | .document => s.a == 0xFF | .mc6809 => s.a == 0x7F)) ∧
  CompletesInh always .deca (fun s => s.set8 .a (BitVec.ofInt 8 (s.a.toNat - 1))) (fun s => onlyNZV (neg8 (BitVec.ofInt 8 (s.a.toNat - 1))) (s.a == 1) (s.a == 0x80)) ∧
  CompletesInh always .clrb (fun s => s.set8 .b (0)) (fun _ => onlyNZVC false true false false) ∧
  CompletesInh always .negb (fun s => s.set8 .b (BitVec.ofInt 8 (-s.b.toNat))) (fun s => onlyNZVC (neg8 (BitVec.ofInt 8 (-s.b.toNat))) (s.b == 0) (s.b == 0x80) (s.b != 0)) ∧
  CompletesInh always .incb (fun s => s.set8 .b (BitVec.ofNat 8 (s.b.toNat + 1))) (fun s => onlyNZV (neg8 (BitVec.ofNat 8 (s.b.toNat + 1))) (s.b == 0xFF)
      (match s.cfg.incVRule with | .document => s.b == 0xFF | .mc6809 => s.b == 0x7F)) ∧
  CompletesInh always .decb (fun s => s.set8 .b (BitVec.ofInt 8 (s.b.toNat - 1))) (fun s => onlyNZV (neg8 (BitVec.ofInt 8 (s.b.toNat - 1))) (s.b == 1) (s.b == 0x80))

/-- In every state (ROL and ROR where the extension set executes): ASR halves the signed value rounding down,
LSR halves the unsigned value, ASL doubles, COM complements, TST keeps the accumulator, ROL and ROR shift
through C; C is the bit shifted out (1 for COM), V of ASL and ROL says that the doubled signed value does
not fit, ASR, LSR and ROR keep V, and every flag the rule does not name is kept. (43_shift_logic.md R251;
43_shift_logic.md R252; 43_shift_logic.md R254; 43_shift_logic.md R255; 43_shift_logic.md R257;
43_shift_logic.md R258; 43_shift_logic.md R260; 43_shift_logic.md R261; 43_shift_logic.md R271;
43_shift_logic.md R272; 46_extension.md R376 to R380) -/
def Obligations.AccumulatorShiftsComplete : Prop :=
  CompletesInh always .asra (fun s => s.set8 .a (BitVec.ofInt 8 (s.a.toInt / 2))) (fun s => onlyNZC (neg8 s.a) (BitVec.ofInt 8 (s.a.toInt / 2) == 0) (decide (s.a.toNat % 2 = 1))) ∧
  CompletesInh always .lsra (fun s => s.set8 .a (BitVec.ofNat 8 (s.a.toNat / 2))) (fun s => onlyNZC false (decide (s.a.toNat < 2)) (decide (s.a.toNat % 2 = 1))) ∧
  CompletesInh always .asla (fun s => s.set8 .a (BitVec.ofNat 8 (2 * s.a.toNat))) (fun s => onlyNZVC (neg8 (BitVec.ofNat 8 (2 * s.a.toNat))) (BitVec.ofNat 8 (2 * s.a.toNat) == 0)
      (outside8 (2 * s.a.toInt)) (neg8 s.a)) ∧
  CompletesInh always .coma (fun s => s.set8 .a (BitVec.ofNat 8 (255 - s.a.toNat))) (fun s => onlyNZVC (!neg8 s.a) (s.a == 0xFF) false true) ∧
  CompletesInh always .tsta (fun s => s) (fun s => onlyNZV (neg8 s.a) (s.a == 0) false) ∧
  CompletesInh extended .rola (fun s => s.set8 .a (BitVec.ofNat 8 (2 * s.a.toNat + (flag .c s.cc).toNat))) (fun s => onlyNZVC (neg8 (BitVec.ofNat 8 (2 * s.a.toNat + (flag .c s.cc).toNat)))
      (BitVec.ofNat 8 (2 * s.a.toNat + (flag .c s.cc).toNat) == 0) (outside8 (2 * s.a.toInt)) (neg8 s.a)) ∧
  CompletesInh extended .rora (fun s => s.set8 .a (BitVec.ofNat 8 (s.a.toNat / 2 + 128 * (flag .c s.cc).toNat))) (fun s => onlyNZC (flag .c s.cc)
      (BitVec.ofNat 8 (s.a.toNat / 2 + 128 * (flag .c s.cc).toNat) == 0) (decide (s.a.toNat % 2 = 1))) ∧
  CompletesInh always .asrb (fun s => s.set8 .b (BitVec.ofInt 8 (s.b.toInt / 2))) (fun s => onlyNZC (neg8 s.b) (BitVec.ofInt 8 (s.b.toInt / 2) == 0) (decide (s.b.toNat % 2 = 1))) ∧
  CompletesInh always .lsrb (fun s => s.set8 .b (BitVec.ofNat 8 (s.b.toNat / 2))) (fun s => onlyNZC false (decide (s.b.toNat < 2)) (decide (s.b.toNat % 2 = 1))) ∧
  CompletesInh always .aslb (fun s => s.set8 .b (BitVec.ofNat 8 (2 * s.b.toNat))) (fun s => onlyNZVC (neg8 (BitVec.ofNat 8 (2 * s.b.toNat))) (BitVec.ofNat 8 (2 * s.b.toNat) == 0)
      (outside8 (2 * s.b.toInt)) (neg8 s.b)) ∧
  CompletesInh always .comb (fun s => s.set8 .b (BitVec.ofNat 8 (255 - s.b.toNat))) (fun s => onlyNZVC (!neg8 s.b) (s.b == 0xFF) false true) ∧
  CompletesInh always .tstb (fun s => s) (fun s => onlyNZV (neg8 s.b) (s.b == 0) false) ∧
  CompletesInh extended .rolb (fun s => s.set8 .b (BitVec.ofNat 8 (2 * s.b.toNat + (flag .c s.cc).toNat))) (fun s => onlyNZVC (neg8 (BitVec.ofNat 8 (2 * s.b.toNat + (flag .c s.cc).toNat)))
      (BitVec.ofNat 8 (2 * s.b.toNat + (flag .c s.cc).toNat) == 0) (outside8 (2 * s.b.toInt)) (neg8 s.b)) ∧
  CompletesInh extended .rorb (fun s => s.set8 .b (BitVec.ofNat 8 (s.b.toNat / 2 + 128 * (flag .c s.cc).toNat))) (fun s => onlyNZC (flag .c s.cc)
      (BitVec.ofNat 8 (s.b.toNat / 2 + 128 * (flag .c s.cc).toNat) == 0) (decide (s.b.toNat % 2 = 1)))

/-- Wherever the address can be computed, the byte read and the result written: CLR writes 0 without reading;
NEG, INC and DEC read the byte once and write the result once, with the flags of their accumulator forms;
the address is computed once and nothing else changes. (40_addressing.md R149; 42_arithmetic.md R205;
42_arithmetic.md R223; 42_arithmetic.md R226; 42_arithmetic.md R229) -/
def Obligations.MemoryArithmeticComplete : Prop :=
  (∀ (e : Ea) (s t w : State) (ea : Word), effAddr e (start (.clr e) s) = .ok ea t →
    write8 ea 0 t = .ok ⟨⟩ w → ∃ cc, exec (.clr e) s = .next (w.withCC cc) ∧
      FlagsAre t.cc cc (onlyNZVC false true false false)) ∧
  CompletesRmw always .neg (fun _ v => BitVec.ofInt 8 (-v.toNat)) (fun _ v => onlyNZVC (neg8 (BitVec.ofInt 8 (-v.toNat))) (v == 0) (v == 0x80) (v != 0)) ∧
  CompletesRmw always .inc (fun _ v => BitVec.ofNat 8 (v.toNat + 1)) (fun u v => onlyNZV (neg8 (BitVec.ofNat 8 (v.toNat + 1))) (v == 0xFF)
      (match u.cfg.incVRule with | .document => v == 0xFF | .mc6809 => v == 0x7F)) ∧
  CompletesRmw always .dec (fun _ v => BitVec.ofInt 8 (v.toNat - 1)) (fun _ v => onlyNZV (neg8 (BitVec.ofInt 8 (v.toNat - 1))) (v == 1) (v == 0x80))

/-- Wherever the address can be computed, the byte read and the result written (ROL and ROR where the extension
set executes): the byte is read once and the result written once, with the result and flags of the
accumulator form; TST reads and writes no byte. (40_addressing.md R149; 43_shift_logic.md R250;
43_shift_logic.md R253; 43_shift_logic.md R256; 43_shift_logic.md R259; 43_shift_logic.md R270;
46_extension.md R375; 46_extension.md R378) -/
def Obligations.MemoryShiftsComplete : Prop :=
  CompletesRmw always .asr (fun _ v => BitVec.ofInt 8 (v.toInt / 2)) (fun _ v => onlyNZC (neg8 v) (BitVec.ofInt 8 (v.toInt / 2) == 0) (decide (v.toNat % 2 = 1))) ∧
  CompletesRmw always .lsr (fun _ v => BitVec.ofNat 8 (v.toNat / 2)) (fun _ v => onlyNZC false (decide (v.toNat < 2)) (decide (v.toNat % 2 = 1))) ∧
  CompletesRmw always .asl (fun _ v => BitVec.ofNat 8 (2 * v.toNat)) (fun _ v => onlyNZVC (neg8 (BitVec.ofNat 8 (2 * v.toNat))) (BitVec.ofNat 8 (2 * v.toNat) == 0)
      (outside8 (2 * v.toInt)) (neg8 v)) ∧
  CompletesRmw always .com (fun _ v => BitVec.ofNat 8 (255 - v.toNat)) (fun _ v => onlyNZVC (!neg8 v) (v == 0xFF) false true) ∧
  CompletesRmw extended .rol (fun u v => BitVec.ofNat 8 (2 * v.toNat + (flag .c u.cc).toNat)) (fun u v => onlyNZVC (neg8 (BitVec.ofNat 8 (2 * v.toNat + (flag .c u.cc).toNat)))
      (BitVec.ofNat 8 (2 * v.toNat + (flag .c u.cc).toNat) == 0) (outside8 (2 * v.toInt)) (neg8 v)) ∧
  CompletesRmw extended .ror (fun u v => BitVec.ofNat 8 (v.toNat / 2 + 128 * (flag .c u.cc).toNat)) (fun u v => onlyNZC (flag .c u.cc)
      (BitVec.ofNat 8 (v.toNat / 2 + 128 * (flag .c u.cc).toNat) == 0) (decide (v.toNat % 2 = 1))) ∧
  (∀ (e : Ea) (s t u : State) (ea : Word) (v : Byte), effAddr e (start (.tst e) s) = .ok ea t →
    read8 ea t = .ok v u → ∃ cc, exec (.tst e) s = .next (u.withCC cc) ∧
      FlagsAre u.cc cc (onlyNZV (neg8 v) (v == 0) false))

/-- Wherever its operand can be read (EOR where the extension set executes): the accumulator takes the bitwise
or, and, exclusive or (BIT writes none); N and Z are the result's, V is 0, and C, H, E, F and I are kept.
(43_shift_logic.md R262 to R267; 46_extension.md R371; 46_extension.md R372) -/
def Obligations.LogicComplete : Prop :=
  Completes8 always .ora (fun t v => t.set8 .a (t.a ||| v))
    (fun t v => onlyNZV (neg8 (t.a ||| v)) (t.a ||| v == 0) false) ∧
  Completes8 always .anda (fun t v => t.set8 .a (t.a &&& v))
    (fun t v => onlyNZV (neg8 (t.a &&& v)) (t.a &&& v == 0) false) ∧
  Completes8 extended .eora (fun t v => t.set8 .a (t.a ^^^ v))
    (fun t v => onlyNZV (neg8 (t.a ^^^ v)) (t.a ^^^ v == 0) false) ∧
  Completes8 always .bita (fun t _ => t)
    (fun t v => onlyNZV (neg8 (t.a &&& v)) (t.a &&& v == 0) false) ∧
  Completes8 always .orb (fun t v => t.set8 .b (t.b ||| v))
    (fun t v => onlyNZV (neg8 (t.b ||| v)) (t.b ||| v == 0) false) ∧
  Completes8 always .andb (fun t v => t.set8 .b (t.b &&& v))
    (fun t v => onlyNZV (neg8 (t.b &&& v)) (t.b &&& v == 0) false) ∧
  Completes8 extended .eorb (fun t v => t.set8 .b (t.b ^^^ v))
    (fun t v => onlyNZV (neg8 (t.b ^^^ v)) (t.b ^^^ v == 0) false) ∧
  Completes8 always .bitb (fun t _ => t)
    (fun t v => onlyNZV (neg8 (t.b &&& v)) (t.b &&& v == 0) false)

/-- ORCC is encoded 1A m and ANDCC 1C m; each completes in every state in its base cycles, 3 on this hardware,
CC takes the bitwise or, and the bitwise and, with the immediate, and nothing else changes. (R268; R269) -/
def Obligations.CcLogicComplete : Prop :=
  ∀ (m : Byte) (s : State),
    encode (.orcc m) = [0x1A, m] ∧ encode (.andcc m) = [0x1C, m] ∧
    baseCycles Config.hardware (.orcc m) = 3 ∧ baseCycles Config.hardware (.andcc m) = 3 ∧
    exec (.orcc m) s = .next ((start (.orcc m) s).withCC (s.cc ||| m)) ∧
    exec (.andcc m) s = .next ((start (.andcc m) s).withCC (s.cc &&& m))

/-- Wherever the address can be computed, JMP completes with PC there. A call completes wherever the two pushes
do: the low byte of the address after the instruction goes to S - 1, the high byte to S - 2, S moves down by
2 and PC goes to the target, computed before the push. RTS completes wherever the two pulls do: PC takes the
big-endian word at S and S moves up by 2. NOP completes and changes nothing. (44_control.md R300 to R305;
00_scope.md R12) -/
def Obligations.JumpsAndCallsComplete : Prop :=
  (∀ (e : Ea) (s t : State) (ea : Word), effAddr e (start (.jmp e) s) = .ok ea t →
    exec (.jmp e) s = .next (t.withPC ea)) ∧
  (∀ (e : Ea) (s t u w : State) (ea : Word), effAddr e (start (.jsr e) s) = .ok ea t →
    write8 (t.sp - 1) (loByte t.pc) (t.set16 .s (t.sp - 1)) = .ok ⟨⟩ u →
    write8 (t.sp - 2) (hiByte t.pc) (u.set16 .s (t.sp - 2)) = .ok ⟨⟩ w →
    exec (.jsr e) s = .next (w.withPC ea)) ∧
  (∀ (off : Byte) (s u w : State),
    write8 (s.sp - 1) (loByte s.pc) ((start (.bsr off) s).set16 .s (s.sp - 1)) = .ok ⟨⟩ u →
    write8 (s.sp - 2) (hiByte s.pc) (u.set16 .s (s.sp - 2)) = .ok ⟨⟩ w →
    exec (.bsr off) s = .next (w.withPC (s.pc + BitVec.ofInt 16 off.toInt))) ∧
  (∀ (off : Word) (s u w : State),
    write8 (s.sp - 1) (loByte s.pc) ((start (.lbsr off) s).set16 .s (s.sp - 1)) = .ok ⟨⟩ u →
    write8 (s.sp - 2) (hiByte s.pc) (u.set16 .s (s.sp - 2)) = .ok ⟨⟩ w →
    exec (.lbsr off) s = .next (w.withPC (s.pc + off))) ∧
  (∀ (s t u : State) (h l : Byte), read8 s.sp (start .rts s) = .ok h t →
    read8 (s.sp + 1) (t.set16 .s (s.sp + 1)) = .ok l u →
    exec .rts s = .next ((u.set16 .s (s.sp + 2)).withPC (joinBytes h l))) ∧
  (∀ s : State, exec .nop s = .next (start .nop s))

/-- For every offset and every state: where the predicate holds of CC, PC is the address after the instruction
plus the offset, sign-extended for a short branch, modulo 65536, and the taken cycles are added; where it
does not, nothing changes but the base cycles. No branch writes CC. (44_control.md R306; 44_control.md R307;
44_control.md R308; 44_control.md R309 to R324; 44_control.md R325 to R340) -/
def Obligations.BranchesComplete : Prop :=
  (∀ off : Byte,
    CompletesBranch (.bra off) (BitVec.ofInt 16 off.toInt) (fun _ => true) ∧
    CompletesBranch (.brn off) (BitVec.ofInt 16 off.toInt) (fun _ => false) ∧
    CompletesBranch (.bhi off) (BitVec.ofInt 16 off.toInt) (fun cc => !(flag .c cc || flag .z cc)) ∧
    CompletesBranch (.bls off) (BitVec.ofInt 16 off.toInt) (fun cc => flag .c cc || flag .z cc) ∧
    CompletesBranch (.bcc off) (BitVec.ofInt 16 off.toInt) (fun cc => !flag .c cc) ∧
    CompletesBranch (.bcs off) (BitVec.ofInt 16 off.toInt) (fun cc => flag .c cc) ∧
    CompletesBranch (.bne off) (BitVec.ofInt 16 off.toInt) (fun cc => !flag .z cc) ∧
    CompletesBranch (.beq off) (BitVec.ofInt 16 off.toInt) (fun cc => flag .z cc) ∧
    CompletesBranch (.bvc off) (BitVec.ofInt 16 off.toInt) (fun cc => !flag .v cc) ∧
    CompletesBranch (.bvs off) (BitVec.ofInt 16 off.toInt) (fun cc => flag .v cc) ∧
    CompletesBranch (.bpl off) (BitVec.ofInt 16 off.toInt) (fun cc => !flag .n cc) ∧
    CompletesBranch (.bmi off) (BitVec.ofInt 16 off.toInt) (fun cc => flag .n cc) ∧
    CompletesBranch (.bge off) (BitVec.ofInt 16 off.toInt) (fun cc => flag .n cc == flag .v cc) ∧
    CompletesBranch (.blt off) (BitVec.ofInt 16 off.toInt) (fun cc => flag .n cc != flag .v cc) ∧
    CompletesBranch (.bgt off) (BitVec.ofInt 16 off.toInt) (fun cc => !flag .z cc && flag .n cc == flag .v cc) ∧
    CompletesBranch (.ble off) (BitVec.ofInt 16 off.toInt) (fun cc => flag .z cc || flag .n cc != flag .v cc)) ∧
  (∀ off : Word,
    CompletesBranch (.lbra off) (off) (fun _ => true) ∧
    CompletesBranch (.lbrn off) (off) (fun _ => false) ∧
    CompletesBranch (.lbhi off) (off) (fun cc => !(flag .c cc || flag .z cc)) ∧
    CompletesBranch (.lbls off) (off) (fun cc => flag .c cc || flag .z cc) ∧
    CompletesBranch (.lbcc off) (off) (fun cc => !flag .c cc) ∧
    CompletesBranch (.lbcs off) (off) (fun cc => flag .c cc) ∧
    CompletesBranch (.lbne off) (off) (fun cc => !flag .z cc) ∧
    CompletesBranch (.lbeq off) (off) (fun cc => flag .z cc) ∧
    CompletesBranch (.lbvc off) (off) (fun cc => !flag .v cc) ∧
    CompletesBranch (.lbvs off) (off) (fun cc => flag .v cc) ∧
    CompletesBranch (.lbpl off) (off) (fun cc => !flag .n cc) ∧
    CompletesBranch (.lbmi off) (off) (fun cc => flag .n cc) ∧
    CompletesBranch (.lbge off) (off) (fun cc => flag .n cc == flag .v cc) ∧
    CompletesBranch (.lblt off) (off) (fun cc => flag .n cc != flag .v cc) ∧
    CompletesBranch (.lbgt off) (off) (fun cc => !flag .z cc && flag .n cc == flag .v cc) ∧
    CompletesBranch (.lble off) (off) (fun cc => flag .z cc || flag .n cc != flag .v cc))

/-- After any CMPA that completes with operand v: HI holds exactly where A is above v unsigned, LS at or below,
CS below, CC at or above, EQ equal, NE unequal, GT, GE, LT, LE the same for the signed values.
(42_arithmetic.md R202; 42_arithmetic.md R216; 44_control.md R306) -/
def Obligations.CompareThenBranch : Prop :=
  ∀ (m : Src8) (s t u : State) (v : Byte), readOperand8 m (start (.cmpa m) s) = .ok v t →
    exec (.cmpa m) s = .next u →
    (Cond.holds .hi u.cc = decide (v.toNat < t.a.toNat)) ∧
    (Cond.holds .ls u.cc = decide (t.a.toNat ≤ v.toNat)) ∧
    (Cond.holds .carrySet u.cc = decide (t.a.toNat < v.toNat)) ∧
    (Cond.holds .carryClear u.cc = decide (v.toNat ≤ t.a.toNat)) ∧
    (Cond.holds .eq u.cc = decide (t.a = v)) ∧ (Cond.holds .ne u.cc = decide (t.a ≠ v)) ∧
    (Cond.holds .gt u.cc = decide (v.toInt < t.a.toInt)) ∧
    (Cond.holds .ge u.cc = decide (v.toInt ≤ t.a.toInt)) ∧
    (Cond.holds .lt u.cc = decide (t.a.toInt < v.toInt)) ∧
    (Cond.holds .le u.cc = decide (t.a.toInt ≤ v.toInt))

/-- For every register list, wherever no pushed byte falls in the VIA's page: the push completes, the stack
pointer moves down by the bytes selected, memory outside them and every register else are unchanged, and the
cycles of the list are added; where the bytes can be stored, CC, A, B, DP, X, Y, the other stack pointer and
PC stand in that order from the new stack pointer up, each 16-bit one big-endian. With the stack in the
VIA's page the push completes wherever each of its stores does. (45_stack_transfer.md R345;
45_stack_transfer.md R346; 45_stack_transfer.md R348) -/
def Obligations.PushesComplete : Prop :=
  (∀ (m : Byte) (s : State), avoidsVia s.cfg.bus (below s.sp (listBytes m)) = true →
    ∃ mem, exec (.pshs m) s = .next ((((start (.pshs m) s).set16 .s (s.sp - listSize m)).withMem
        mem).withCyc (baseCycles s.cfg (.pshs m) + listCycles s.cfg.pushPullCycles m)) ∧
      SameBytesOutside (below s.sp (listBytes m)) s (s.withMem mem) ∧
      (s.mem.wf = true → (below s.sp (listBytes m)).all (storable s.cfg.bus) = true →
        ListStands .s m (s.sp - listSize m) s (s.withMem mem))) ∧
  (∀ (m : Byte) (s : State), avoidsVia s.cfg.bus (below s.u (listBytes m)) = true →
    ∃ mem, exec (.pshu m) s = .next ((((start (.pshu m) s).set16 .u (s.u - listSize m)).withMem
        mem).withCyc (baseCycles s.cfg (.pshu m) + listCycles s.cfg.pushPullCycles m)) ∧
      SameBytesOutside (below s.u (listBytes m)) s (s.withMem mem) ∧
      (s.mem.wf = true → (below s.u (listBytes m)).all (storable s.cfg.bus) = true →
        ListStands .u m (s.u - listSize m) s (s.withMem mem))) ∧
  (∀ (m : Byte) (s t : State), pushList .s m (start (.pshs m) s) = .ok ⟨⟩ t →
    exec (.pshs m) s = .next (t.withCyc (t.cyc + listCycles t.cfg.pushPullCycles m))) ∧
  (∀ (m : Byte) (s t : State), pushList .u m (start (.pshu m) s) = .ok ⟨⟩ t →
    exec (.pshu m) s = .next (t.withCyc (t.cyc + listCycles t.cfg.pushPullCycles m)))

/-- For every register list, wherever no pulled byte lies in the VIA's page: the pull completes, CC, A, B, DP,
X, Y, the other stack pointer and PC take the bytes that stand in that order from the stack pointer up where
they are selected and are kept where not, the stack pointer moves up by the bytes selected, the cycles of
the list are added, and memory and the devices are unchanged. With the stack in the VIA's page the pull
completes wherever each of its reads does. (45_stack_transfer.md R345; 45_stack_transfer.md R347;
45_stack_transfer.md R349) -/
def Obligations.PullsComplete : Prop :=
  (∀ (m : Byte) (s : State), avoidsVia s.cfg.bus (upFrom s.sp (listBytes m)) = true →
    ∃ t, exec (.puls m) s = .next t ∧ t.sp = s.sp + listSize m ∧
      t.cc = (if m.getLsbD 0 then s.byteAt (s.sp + listOffset m 0) else s.cc) ∧
      t.a = (if m.getLsbD 1 then s.byteAt (s.sp + listOffset m 1) else s.a) ∧
      t.b = (if m.getLsbD 2 then s.byteAt (s.sp + listOffset m 2) else s.b) ∧
      t.dp = (if m.getLsbD 3 then s.byteAt (s.sp + listOffset m 3) else s.dp) ∧
      t.x = (if m.getLsbD 4 then s.wordAt (s.sp + listOffset m 4) else s.x) ∧
      t.y = (if m.getLsbD 5 then s.wordAt (s.sp + listOffset m 5) else s.y) ∧
      t.u = (if m.getLsbD 6 then s.wordAt (s.sp + listOffset m 6) else s.u) ∧
      t.pc = (if m.getLsbD 7 then s.wordAt (s.sp + listOffset m 7) else s.pc) ∧
      t.cyc = baseCycles s.cfg (.puls m) + listCycles s.cfg.pushPullCycles m ∧ t.mem = s.mem ∧ t.wait = s.wait ∧
      SameDevices s t) ∧
  (∀ (m : Byte) (s : State), avoidsVia s.cfg.bus (upFrom s.u (listBytes m)) = true →
    ∃ t, exec (.pulu m) s = .next t ∧ t.u = s.u + listSize m ∧
      t.cc = (if m.getLsbD 0 then s.byteAt (s.u + listOffset m 0) else s.cc) ∧
      t.a = (if m.getLsbD 1 then s.byteAt (s.u + listOffset m 1) else s.a) ∧
      t.b = (if m.getLsbD 2 then s.byteAt (s.u + listOffset m 2) else s.b) ∧
      t.dp = (if m.getLsbD 3 then s.byteAt (s.u + listOffset m 3) else s.dp) ∧
      t.x = (if m.getLsbD 4 then s.wordAt (s.u + listOffset m 4) else s.x) ∧
      t.y = (if m.getLsbD 5 then s.wordAt (s.u + listOffset m 5) else s.y) ∧
      t.sp = (if m.getLsbD 6 then s.wordAt (s.u + listOffset m 6) else s.sp) ∧
      t.pc = (if m.getLsbD 7 then s.wordAt (s.u + listOffset m 7) else s.pc) ∧
      t.cyc = baseCycles s.cfg (.pulu m) + listCycles s.cfg.pushPullCycles m ∧ t.mem = s.mem ∧ t.wait = s.wait ∧
      SameDevices s t) ∧
  (∀ (m : Byte) (s t : State), pullList .s m (start (.puls m) s) = .ok ⟨⟩ t →
    exec (.puls m) s = .next (t.withCyc (t.cyc + listCycles t.cfg.pushPullCycles m))) ∧
  (∀ (m : Byte) (s t : State), pullList .u m (start (.pulu m) s) = .ok ⟨⟩ t →
    exec (.pulu m) s = .next (t.withCyc (t.cyc + listCycles t.cfg.pushPullCycles m)))

/-- For any two 8-bit registers, and any two 16-bit registers: EXG completes in every state with each holding
what the other held, both read before either is written, TFR with the second holding what the first held;
every other register of that width and everything else is unchanged, D being the pair A:B. A pair of two
widths, which no post-byte decodes to, faults with IllegalRegisterTransfer and the post-byte its nibbles
make and changes no register: that last clause is the model's choice (log 18, DESIGN CHOICE); R350 speaks of
the post-byte at the fetch. (45_stack_transfer.md R350; 45_stack_transfer.md R351; 45_stack_transfer.md
R352; 10_state.md R31; notes/assumptions/18.md) -/
def Obligations.ExchangeAndTransferComplete : Prop :=
  (∀ (p q : Reg8) (s : State), ∃ t, exec (.exg (.r8 p) (.r8 q)) s = .next t ∧
    (∀ r, t.get8 r = if r = p then s.get8 q else if r = q then s.get8 p else s.get8 r) ∧
    (∀ r, r ≠ .d → t.get16 r = s.get16 r) ∧ t.mem = s.mem ∧ t.wait = s.wait ∧ t.cyc = baseCycles s.cfg (.exg (.r8 p) (.r8 q)) ∧
    SameDevices s t) ∧
  (∀ (p q : Reg8) (s : State), ∃ t, exec (.tfr (.r8 p) (.r8 q)) s = .next t ∧
    (∀ r, t.get8 r = if r = q then s.get8 p else s.get8 r) ∧
    (∀ r, r ≠ .d → t.get16 r = s.get16 r) ∧ t.mem = s.mem ∧ t.wait = s.wait ∧ t.cyc = baseCycles s.cfg (.tfr (.r8 p) (.r8 q)) ∧
    SameDevices s t) ∧
  (∀ (p q : Reg16) (s : State), ∃ t, exec (.exg (.r16 p) (.r16 q)) s = .next t ∧
    (∀ r, t.get16 r = if r = p then s.get16 q else if r = q then s.get16 p else s.get16 r) ∧
    t.cc = s.cc ∧ t.dp = s.dp ∧ t.mem = s.mem ∧ t.wait = s.wait ∧ t.cyc = baseCycles s.cfg (.exg (.r16 p) (.r16 q)) ∧ SameDevices s t) ∧
  (∀ (p q : Reg16) (s : State), ∃ t, exec (.tfr (.r16 p) (.r16 q)) s = .next t ∧
    (∀ r, t.get16 r = if r = q then s.get16 p else s.get16 r) ∧
    t.cc = s.cc ∧ t.dp = s.dp ∧ t.mem = s.mem ∧ t.wait = s.wait ∧ t.cyc = baseCycles s.cfg (.tfr (.r16 p) (.r16 q)) ∧ SameDevices s t) ∧
  (∀ (r1 r2 : XReg) (s : State), r1.sameWidth r2 = false →
    exec (.exg r1 r2) s = stop (.illegalRegisterTransfer (pairByte r1 r2)) (start (.exg r1 r2) s) ∧
    exec (.tfr r1 r2) s = stop (.illegalRegisterTransfer (pairByte r1 r2)) (start (.tfr r1 r2) s))

/-- Where the extension set executes: MUL (encoded 3D, 11 cycles on this hardware) leaves the unsigned product
of A and B in D, Z for a product of 0 and C as its bit 7; ABX (3A, 3 cycles on this hardware) adds B, zero-
extended, to X modulo 65536 and keeps CC; SEX leaves in D the sign extension of B, N and Z from D, other
flags kept. Nothing else changes. Where it does not execute, MUL and ABX fault with UnimplementedOpcode.
Choices: that SEX keeps V is the spec's own decision D8; that exec itself checks the gate which R370 puts in
the fetch is the model's (log 11, DESIGN CHOICE). (46_extension.md R381; 46_extension.md R382;
46_extension.md R383; 46_extension.md R370; 30_encoding.md R118; notes/assumptions/11.md) -/
def Obligations.MultiplySignExtendAbxComplete : Prop :=
  encode .mul = [0x3D] ∧ encode .abx = [0x3A] ∧ baseCycles Config.hardware .mul = 11 ∧
  baseCycles Config.hardware .abx = 3 ∧
  CompletesInh extended .mul (fun s => s.set16 .d (BitVec.ofNat 16 (s.a.toNat * s.b.toNat)))
    (fun s => onlyZC (decide (s.a.toNat * s.b.toNat = 0))
      (decide (s.a.toNat * s.b.toNat / 128 % 2 = 1))) ∧
  (∀ s : State, extended s.cfg →
    exec .abx s = .next ((start .abx s).set16 .x (BitVec.ofNat 16 (s.x.toNat + s.b.toNat)))) ∧
  CompletesInh extended .sex (fun s => s.set16 .d (BitVec.ofInt 16 s.b.toInt))
    (fun s => onlyNZ (neg8 s.b) (s.b == 0)) ∧
  (∀ s : State, s.cfg.extendedSet = false →
    exec .mul s = stop (.unimplementedOpcode .p0 0x3D) (start .mul s) ∧
    exec .abx s = stop (.unimplementedOpcode .p0 0x3A) (start .abx s))

/-- Where the extension set executes: DAA adds to A 0x06 where H is set or the low digit is above 9, and 0x60
where C is set or the high digit is above 9 or is above 8 with the low digit above 9; C is set by the carry
out and never cleared, N and Z are the result's, V and H and the rest are kept (that V is kept is the spec's
own decision D8). (46_extension.md R384) -/
def Obligations.DaaComplete : Prop :=
  CompletesInh extended .daa
    (fun s => s.set8 .a (BitVec.ofNat 8 (s.a.toNat +
      (if flag .h s.cc ∨ 9 < s.a.toNat % 16 then 6 else 0) +
      (if flag .c s.cc ∨ 9 < s.a.toNat / 16 ∨ (8 < s.a.toNat / 16 ∧ 9 < s.a.toNat % 16) then 96 else 0))))
    (fun s => fun g =>
      let sum := s.a.toNat + (if flag .h s.cc ∨ 9 < s.a.toNat % 16 then 6 else 0) +
        (if flag .c s.cc ∨ 9 < s.a.toNat / 16 ∨ (8 < s.a.toNat / 16 ∧ 9 < s.a.toNat % 16) then 96 else 0)
      onlyNZC (neg8 (BitVec.ofNat 8 sum)) (BitVec.ofNat 8 sum == 0)
        (flag .c s.cc || decide (255 < sum)) g)

/-- Where the extension set executes and A and the immediate m each hold two decimal digits: ADCA #m and then
DAA leave in A the two digits of the decimal sum of A, m and the carry in, and in C its hundreds.
(42_arithmetic.md R211; 46_extension.md R384) -/
def Obligations.DecimalAddition : Prop :=
  ∀ (s t u : State) (m : Byte), extended s.cfg → s.a.toNat % 16 < 10 → s.a.toNat / 16 < 10 →
    m.toNat % 16 < 10 → m.toNat / 16 < 10 → exec (.adca (.imm m)) s = .next t → exec .daa t = .next u →
    u.a.toNat % 16 < 10 ∧ u.a.toNat / 16 < 10 ∧
    100 * (flag .c u.cc).toNat + 10 * (u.a.toNat / 16) + u.a.toNat % 16 =
      (10 * (s.a.toNat / 16) + s.a.toNat % 16) + (10 * (m.toNat / 16) + m.toNat % 16) +
        (flag .c s.cc).toNat

/-- Where the extension set executes and no pushed byte falls in the VIA's page: the instruction completes, S
moves down by 12, memory outside those bytes and every register but S, PC and CC are unchanged, E is set,
SWI also sets I and F, every other flag is kept, PC is the word at the vector (0xFFFA, 0xFFF4, 0xFFF2), and
the cycles are the base cycles (19, 20, 20 on this hardware); where the bytes can be stored, CC with E set,
A, B, DP, X, Y, U and the return PC stand from the new S up. With the stack in the VIA's page the
instruction completes wherever each of its twelve stores does, with S down by 12, the same flags and the
same PC. (46_extension.md R385 to R388; 20_memory.md R76; 30_encoding.md R118) -/
def Obligations.SoftwareInterruptsComplete : Prop :=
  (∀ s : State, extended s.cfg → avoidsVia s.cfg.bus (below s.sp 12) = true →
    ∃ t, exec .swi s = .next t ∧
      EntryEffect (fun g => if g = .e ∨ g = .i ∨ g = .f then some true else none) 0xFFFA (baseCycles s.cfg .swi) s t) ∧
  (∀ s : State, extended s.cfg → avoidsVia s.cfg.bus (below s.sp 12) = true →
    ∃ t, exec .swi2 s = .next t ∧
      EntryEffect (fun g => if g = .e then some true else none) 0xFFF4 (baseCycles s.cfg .swi2) s t) ∧
  (∀ s : State, extended s.cfg → avoidsVia s.cfg.bus (below s.sp 12) = true →
    ∃ t, exec .swi3 s = .next t ∧
      EntryEffect (fun g => if g = .e then some true else none) 0xFFF2 (baseCycles s.cfg .swi3) s t) ∧
  (∀ s t : State, extended s.cfg → pushEntire (start .swi s) = .ok ⟨⟩ t →
    exec .swi s = .next ((t.withCC (t.cc ||| 0x50)).withPC (t.wordAt 0xFFFA)) ∧ t.sp = s.sp - 12) ∧
  (∀ s t : State, extended s.cfg → pushEntire (start .swi2 s) = .ok ⟨⟩ t →
    exec .swi2 s = .next (t.withPC (t.wordAt 0xFFF4)) ∧ t.sp = s.sp - 12) ∧
  (∀ s t : State, extended s.cfg → pushEntire (start .swi3 s) = .ok ⟨⟩ t →
    exec .swi3 s = .next (t.withPC (t.wordAt 0xFFF2)) ∧ t.sp = s.sp - 12) ∧
  baseCycles Config.hardware .swi = 19 ∧ baseCycles Config.hardware .swi2 = 20 ∧
  baseCycles Config.hardware .swi3 = 20

/-- Where the extension set executes and no pulled byte lies in the VIA's page: RTI completes. With E set in the
byte at S, the 12 bytes from S up are CC, A, B, DP, X, Y, U and PC, S moves up by 12 and the base cycles (6
on this hardware) and 9 more are spent; with E clear the 3 bytes from S up are CC and PC, S moves up by 3,
the base cycles are spent and the other registers are kept. Memory and the devices are unchanged. With the
stack in the VIA's page RTI completes wherever each of its reads does. (46_extension.md R389; 30_encoding.md
R118) -/
def Obligations.ReturnFromInterruptComplete : Prop :=
  (∀ s : State, extended s.cfg → flag .e (s.byteAt s.sp) = true →
    avoidsVia s.cfg.bus (upFrom s.sp 12) = true →
    ∃ t, exec .rti s = .next t ∧ t.cc = s.byteAt s.sp ∧ t.mem = s.mem ∧ t.wait = s.wait ∧
      SameDevices s t ∧
      t.a = s.byteAt (s.sp + 1) ∧ t.b = s.byteAt (s.sp + 2) ∧ t.dp = s.byteAt (s.sp + 3) ∧
      t.x = s.wordAt (s.sp + 4) ∧ t.y = s.wordAt (s.sp + 6) ∧ t.u = s.wordAt (s.sp + 8) ∧
      t.pc = s.wordAt (s.sp + 10) ∧ t.sp = s.sp + 12 ∧ t.cyc = baseCycles s.cfg .rti + 9) ∧
  (∀ s : State, extended s.cfg → flag .e (s.byteAt s.sp) = false →
    avoidsVia s.cfg.bus (upFrom s.sp 3) = true →
    ∃ t, exec .rti s = .next t ∧ t.cc = s.byteAt s.sp ∧ t.mem = s.mem ∧ t.wait = s.wait ∧
      SameDevices s t ∧
      t.a = s.a ∧ t.b = s.b ∧ t.dp = s.dp ∧ t.x = s.x ∧ t.y = s.y ∧ t.u = s.u ∧
      t.pc = s.wordAt (s.sp + 1) ∧ t.sp = s.sp + 3 ∧ t.cyc = baseCycles s.cfg .rti) ∧
  (∀ (s t u : State) (c : Byte), extended s.cfg → pull8 .s (start .rti s) = .ok c t →
    flag .e c = true → pullList .s 0xFE (t.withCC c) = .ok ⟨⟩ u →
    exec .rti s = .next (u.withCyc (baseCycles s.cfg .rti + 9)) ∧ u.sp = s.sp + 12) ∧
  (∀ (s t u : State) (c : Byte) (w : Word), extended s.cfg → pull8 .s (start .rti s) = .ok c t →
    flag .e c = false → pull16 .s (t.withCC c) = .ok w u →
    exec .rti s = .next (u.withPC w) ∧ u.sp = s.sp + 3) ∧
  baseCycles Config.hardware .rti = 6

/-- Where the extension set executes, memory is canonical and the 12 bytes below S can be stored: the software
interrupt and then RTI both complete, and every register holds what it held before, PC the address after the
interrupt instruction, with CC as it was but for E set. (46_extension.md R385 to R389; 45_stack_transfer.md
R345) -/
def Obligations.SoftwareInterruptThenReturn : Prop :=
  ∀ (i : Instr) (s : State), (i = .swi ∨ i = .swi2 ∨ i = .swi3) → extended s.cfg → s.mem.wf = true →
    (below s.sp 12).all (storable s.cfg.bus) = true →
    ∃ t u, exec i s = .next t ∧ exec .rti t = .next u ∧ u.a = s.a ∧ u.b = s.b ∧ u.dp = s.dp ∧ u.x = s.x ∧
      u.y = s.y ∧ u.u = s.u ∧ u.sp = s.sp ∧ u.pc = s.pc ∧
      FlagsAre s.cc u.cc (fun g => if g = .e then some true else none)

/-- Where the extension set executes under the mc6809 interrupt model: SYNC completes in every state and only
sets the wait; CWAI completes wherever no pushed byte falls in the VIA's page: CC is masked by the
immediate, E is set, the register set is on S below, and the wait is set; with the stack in the VIA's page
CWAI completes wherever each of its twelve stores does. In every other configuration both fault with
UnimplementedOpcode: that exec itself does so is the model's choice (log 11, DESIGN CHOICE), R370 puts the
gate in the fetch. (46_extension.md R370; 46_extension.md R390; 46_extension.md R391;
notes/assumptions/11.md) -/
def Obligations.WaitInstructionsComplete : Prop :=
  (∀ s : State, extended s.cfg → s.cfg.interruptModel = .mc6809 →
    exec .sync s = .next ((start .sync s).withWait .sync)) ∧
  (∀ (m : Byte) (s : State), extended s.cfg → s.cfg.interruptModel = .mc6809 →
    avoidsVia s.cfg.bus (below s.sp 12) = true →
    ∃ mem cc, exec (.cwai m) s = .next (((((start (.cwai m) s).set16 .s (s.sp - 12)).withMem mem).withCC
        cc).withWait .cwai) ∧
      FlagsAre (s.cc &&& m) cc (fun g => if g = .e then some true else none) ∧
      SameBytesOutside (below s.sp 12) s (s.withMem mem) ∧
      (s.mem.wf = true → (below s.sp 12).all (storable s.cfg.bus) = true →
        ListStands .s 0xFF (s.sp - 12) (s.withCC cc) (s.withMem mem))) ∧
  (∀ (m : Byte) (s t : State), extended s.cfg → s.cfg.interruptModel = .mc6809 →
    pushEntire ((start (.cwai m) s).withCC (s.cc &&& m)) = .ok ⟨⟩ t →
    exec (.cwai m) s = .next (t.withWait .cwai) ∧ t.sp = s.sp - 12) ∧
  (∀ (m : Byte) (s : State), (s.cfg.extendedSet = false ∨ s.cfg.interruptModel = .fault) →
    exec .sync s = stop (.unimplementedOpcode .p0 0x13) (start .sync s) ∧
    exec (.cwai m) s = stop (.unimplementedOpcode .p0 0x3C) (start (.cwai m) s))

/-- With no fault and an IRQ to take: outside the CWAI wait, wherever no pushed byte falls in the VIA's page,
the step's first part pushes the whole register set with E set, sets I and keeps F, goes to the word at
0xFFF8 and spends 19 cycles; in the CWAI wait it pushes nothing, ends the wait, sets I and spends 1 cycle.
With the stack in the VIA's page the entry completes wherever each of its twelve stores does. The end of the
step follows. (60_exceptions.md R433; 60_exceptions.md R482; 60_exceptions.md R470) -/
def Obligations.InterruptEntry : Prop :=
  ∀ s : State, s.fault = none → irqTaken s = true →
    step s = (match finish irqEntry (beginStep s) with
      | .next t => endOfStep t
      | .fault r => .fault r
      | .refused r => .refused r) ∧
    (s.wait ≠ .cwai → avoidsVia s.cfg.bus (below s.sp 12) = true →
      ∃ t, finish irqEntry (beginStep s) = .next t ∧
        EntryEffect (fun g => if g = .e ∨ g = .i then some true else none) 0xFFF8 19 (beginStep s) t) ∧
    (s.wait ≠ .cwai → ∀ t, pushEntire (beginStep s) = .ok ⟨⟩ t →
      finish irqEntry (beginStep s) = .next
        (((t.withCyc 19).withCC (t.cc ||| 0x10)).withPC (t.wordAt 0xFFF8)) ∧ t.sp = s.sp - 12) ∧
    (s.wait = .cwai →
      ∃ cc, finish irqEntry (beginStep s) = .next (((((beginStep s).withWait .none).withCyc 1).withCC
          cc).withPC (s.wordAt 0xFFF8)) ∧
        FlagsAre s.cc cc (fun g => if g = .i then some true else none))

/-- With no fault, a wait and no IRQ to take: the step is the end of a step of 1 cycle from the same registers;
under the mc6809 model it answers that state with the devices advanced and the budget spent, the SYNC wait
ended exactly where the IRQ line is then asserted and the CWAI wait kept. (46_extension.md R390;
46_extension.md R391; 60_exceptions.md R430; 60_exceptions.md R470) -/
def Obligations.WaitingStepSpendsOneCycle : Prop :=
  ∀ s : State, s.fault = none → s.wait ≠ .none → irqTaken s = false →
    step s = endOfStep ((beginStep s).withCyc 1) ∧
    (s.cfg.interruptModel = .mc6809 →
      ∃ t, t = spendBudget (advanceDevices ((beginStep s).withCyc 1)) ∧ t.wait = s.wait ∧
        (s.wait = .sync → step s = .next (if t.irqLine then t.withWait .none else t)) ∧
        (s.wait = .cwai → step s = .next t))

/-- For every instruction that answers a next state: A, B, DP, X, Y, U and S are each unchanged unless the
instruction names it as a destination, its mode increments or decrements it, or it is the stack pointer the
instruction moves. (10_state.md R33; 40_addressing.md R145; 45_stack_transfer.md R345) -/
def Obligations.FrameOfRegisters : Prop :=
  ∀ (i : Instr) (s t : State) (r : RegName), exec i s = .next t → r ∉ regsWritten i →
    t.named r = s.named r

/-- For every instruction that answers a next state, each of the eight bits of CC is unchanged unless the rule
of the instruction names it, or the instruction writes CC whole (ORCC, ANDCC, EXG or TFR to CC, PULS or PULU
with the CC bit, RTI, CWAI). (00_scope.md R15; 10_state.md R36; 10_state.md R37) -/
def Obligations.FrameOfFlags : Prop :=
  ∀ (i : Instr) (s t : State) (g : Flag), exec i s = .next t → g ∉ flagsWritten i →
    flag g t.cc = flag g s.cc

/-- For every instruction that answers a next state: every byte of memory reads as before unless it is one of
the bytes stored to, at the address that the addressing mode computes from the state the body starts in, or
below the stack pointer as many bytes as are pushed; an instruction that stores nothing leaves all of
memory. (20_memory.md R72; 20_memory.md R74; 00_scope.md R10; 00_scope.md R12) -/
def Obligations.FrameOfMemory : Prop :=
  ∀ (i : Instr) (s t : State), exec i s = .next t → SameBytesOutside (storedTo i (start i s)) s t

/-- For every instruction that answers a next state: pc0, the fault record, the budget, the buttons and the
configuration are unchanged; the wait changes only by CWAI and SYNC; an instruction with no memory access
leaves the VIA and the PSG, and one that stores nothing leaves the PSG. (60_exceptions.md R470;
60_exceptions.md R492; 00_scope.md R6) -/
def Obligations.FrameOfTheRest : Prop :=
  ∀ (i : Instr) (s t : State), exec i s = .next t →
    t.pc0 = s.pc0 ∧ t.fault = s.fault ∧ t.budget = s.budget ∧ t.buttons = s.buttons ∧ t.cfg = s.cfg ∧
    ((∀ m, i ≠ .cwai m) → i ≠ .sync → t.wait = s.wait) ∧
    (touchesNoMemory i = true → t.via = s.via ∧ t.psg = s.psg) ∧
    (storedTo i (start i s) = [] → t.psg = s.psg)

/-- For every register and offset: each submode of the indexed post-byte answers the address of its row, with
the offset sign-extended, the post-increment after and the pre-decrement before the address is taken, and
its cycles; with indirection, where the two bytes are memory, the address is the big-endian word there and 3
cycles more are spent. (40_addressing.md R140; 40_addressing.md R142; 40_addressing.md R143;
40_addressing.md R144; 40_addressing.md R145) -/
def Obligations.IndexedAddresses : Prop :=
  ∀ (r : IdxReg) (n5 : BitVec 5) (n8 : Byte) (n16 : Word),
    (∀ s : State, indexedEa (.off5 r n5) s = .ok (s.get16 (idxReg16 r) + BitVec.ofInt 16 n5.toInt) (s.withCyc (s.cyc + 1))) ∧
    (∀ s : State, indexedEa (.inc1 r) s =
      .ok (s.get16 (idxReg16 r)) ((s.set16 (idxReg16 r) (s.get16 (idxReg16 r) + 1)).withCyc (s.cyc + 2))) ∧
    (∀ s : State, indexedEa (.dec1 r) s =
      .ok (s.get16 (idxReg16 r) - 1) ((s.set16 (idxReg16 r) (s.get16 (idxReg16 r) - 1)).withCyc (s.cyc + 2))) ∧
    IndexedIs (.inc2 r) (fun s => s.get16 (idxReg16 r)) (fun s => s.set16 (idxReg16 r) (s.get16 (idxReg16 r) + 2)) 3 ∧
    IndexedIs (.dec2 r) (fun s => s.get16 (idxReg16 r) - 2) (fun s => s.set16 (idxReg16 r) (s.get16 (idxReg16 r) - 2)) 3 ∧
    IndexedIs (.zero r) (fun s => s.get16 (idxReg16 r)) (fun s => s) 0 ∧
    IndexedIs (.accB r) (fun s => s.get16 (idxReg16 r) + BitVec.ofInt 16 s.b.toInt) (fun s => s) 1 ∧
    IndexedIs (.accA r) (fun s => s.get16 (idxReg16 r) + BitVec.ofInt 16 s.a.toInt) (fun s => s) 1 ∧
    IndexedIs (.off8 r n8) (fun s => s.get16 (idxReg16 r) + BitVec.ofInt 16 n8.toInt) (fun s => s) 1 ∧
    IndexedIs (.off16 r n16) (fun s => s.get16 (idxReg16 r) + n16) (fun s => s) 4 ∧
    IndexedIs (.accD r) (fun s => s.get16 (idxReg16 r) + joinBytes s.a s.b) (fun s => s) 4 ∧
    IndexedIs (.pc8 n8) (fun s => s.pc + BitVec.ofInt 16 n8.toInt) (fun s => s) 1 ∧
    IndexedIs (.pc16 n16) (fun s => s.pc + n16) (fun s => s) 5 ∧
    (∀ s : State, (s.peek n16).isSome → (s.peek (n16 + 1)).isSome →
      indexedEa (.extInd n16) s = .ok (s.wordAt n16) (s.withCyc (s.cyc + 5)))

/-- An immediate operand reads as itself. The address of a direct operand is DP and its byte, of an extended one
its word, and neither changes the state. An 8-bit operand in memory outside the VIA's page reads as the byte
there, a 16-bit one as the big-endian word there, wrapping at 0xFFFF and with no alignment rule, and reading
changes nothing beyond what computing the address did. (40_addressing.md R146; 40_addressing.md R147;
20_memory.md R70; 20_memory.md R71) -/
def Obligations.OperandsReadable : Prop :=
  ∀ (s t : State) (v : Byte) (w : Word) (e : Ea) (ea : Word),
    readOperand8 (.imm v) s = .ok v s ∧ readOperand16 (.imm w) s = .ok w s ∧
    effAddr (.dir v) s = .ok (BitVec.ofNat 16 (256 * s.dp.toNat + v.toNat)) s ∧
    effAddr (.ext w) s = .ok w s ∧
    (effAddr e s = .ok ea t → (t.peek ea).isSome →
      readOperand8 (.mem e) s = .ok (t.byteAt ea) t) ∧
    (effAddr e s = .ok ea t → (t.peek ea).isSome → (t.peek (ea + 1)).isSome →
      readOperand16 (.mem e) s = .ok (t.wordAt ea) t)

/-- Under the Vectrex map in canonical memory: a write to RAM reads back at the address and at its copy 1024
bytes away and changes no byte outside the two, a write to cartridge, BIOS or an unmapped address changes
nothing, unmapped addresses read as the fixed value; under the flat bus every write reads back. No such
access faults. (20_memory.md R62 to R66; 20_memory.md R68; 20_memory.md R69) -/
def Obligations.BusRegions : Prop :=
  ∀ (s : State) (a b : Word) (v : Byte), s.mem.wf = true →
    (s.cfg.bus = .vectrex → 0xC800 ≤ a.toNat → a.toNat < 0xD000 →
      ∃ t, write8 a v s = .ok ⟨⟩ t ∧ t.peek a = some v ∧ t.peek (a ^^^ 0x0400) = some v ∧
        (b ≠ a → b ≠ a ^^^ 0x0400 → t.peek b = s.peek b)) ∧
    (s.cfg.bus = .vectrex → (a.toNat < 0xC800 ∨ 0xD800 ≤ a.toNat) →
      write8 a v s = .ok ⟨⟩ s ∧ ∃ x, read8 a s = .ok x s) ∧
    (s.cfg.bus = .vectrex → (0x8000 ≤ a.toNat ∧ a.toNat < 0xC800 ∨ 0xD800 ≤ a.toNat ∧ a.toNat < 0xE000) →
      read8 a s = .ok s.cfg.unmappedReadValue s) ∧
    (s.cfg.bus = .flatTest →
      ∃ t, write8 a v s = .ok ⟨⟩ t ∧ t.peek a = some v ∧ (b ≠ a → t.peek b = s.peek b))

/-- For every address of the VIA's page: registers 2, 3, 5 to 7 and 9 to 14 answer their value and change
nothing; 4 and 8 answer the low counter byte and clear IFR bit 6 or 5; Port A and Port B answer the output
register on output pins and the input on the others; 15 faults. (60_exceptions.md R440; 60_exceptions.md
R441; 60_exceptions.md R447; 60_exceptions.md R455; 20_memory.md R67) -/
def Obligations.ViaReads : Prop :=
  ∀ (s : State) (a : Word) (n : Nat), region s.cfg.bus a = .via → a.toNat % 16 = n →
    (n = 0 → ∃ x k, read8 a s = .ok x (s.withVia { s.via with draws := k }) ∧
      x &&& s.via.ddrb = s.via.orb &&& s.via.ddrb) ∧
    (n = 1 → ∃ x k, read8 a s = .ok x (s.withVia { s.via with draws := k }) ∧
      x &&& s.via.ddra = s.via.ora &&& s.via.ddra ∧
      (s.psg.mode = .read → x &&& ~~~s.via.ddra = s.psg.daOut &&& ~~~s.via.ddra)) ∧
    (n = 2 → read8 a s = .ok s.via.ddrb s) ∧ (n = 3 → read8 a s = .ok s.via.ddra s) ∧
    (n = 4 → read8 a s = .ok (loByte s.via.t1c) (s.withVia { s.via with ifr := s.via.ifr &&& 0x3F })) ∧
    (n = 5 → read8 a s = .ok (hiByte s.via.t1c) s) ∧ (n = 6 → read8 a s = .ok s.via.t1lL s) ∧
    (n = 7 → read8 a s = .ok s.via.t1lH s) ∧
    (n = 8 → read8 a s = .ok (loByte s.via.t2c) (s.withVia { s.via with ifr := s.via.ifr &&& 0x5F })) ∧
    (n = 9 → read8 a s = .ok (hiByte s.via.t2c) s) ∧ (n = 10 → read8 a s = .ok s.via.sr s) ∧
    (n = 11 → read8 a s = .ok s.via.acr s) ∧ (n = 12 → read8 a s = .ok s.via.pcr s) ∧
    (n = 13 → read8 a s = .ok (if s.via.ifr &&& s.via.ier = 0 then zeroTop s.via.ifr
      else 0x80 ||| zeroTop s.via.ifr) s) ∧
    (n = 14 → read8 a s = .ok (0x80 ||| zeroTop s.via.ier) s) ∧
    (n = 15 → read8 a s = .error (.unmodelledViaRegister a) s)

/-- A write of Port A sets ORA, one of Port B sets ORB and re-evaluates the PSG bus; then ORA goes to the X
velocity where ORB bit 0 is 1, else to the Y velocity, the offset, the brightness or nowhere as ORB bits 2-1
are 0, 1, 2, 3. Registers 2, 3 and 10 store; 4 and 6 store the low half of Timer1's latch, 7 the high half
and clears IFR bit 6; 5 stores the high half, loads the counter, clears IFR bit 6, starts Timer1 and takes
PB7 to 0; 8 stores Timer2's low latch; 9 loads and starts Timer2 and clears IFR bit 5; 15 faults. Nothing
else changes. (60_exceptions.md R442; 60_exceptions.md R443; 60_exceptions.md R444; 60_exceptions.md R447;
60_exceptions.md R448; 60_exceptions.md R456; 60_exceptions.md R484) -/
def Obligations.ViaDataWrites : Prop :=
  ∀ (s : State) (a : Word) (x : Byte) (n : Nat), region s.cfg.bus a = .via → a.toNat % 16 = n →
    (n = 0 → ∃ v, write8 a x s = .ok ⟨⟩ ((s.withVia v).withPsg
        (psgBus (x.getLsbD 4) (x.getLsbD 3) s.via.ora s.buttons s.psg)) ∧
      Routed { s.via with orb := x } v) ∧
    (n = 1 → ∃ v, write8 a x s = .ok ⟨⟩ (s.withVia v) ∧ Routed { s.via with ora := x } v) ∧
    (n = 2 → write8 a x s = .ok ⟨⟩ (s.withVia { s.via with ddrb := x })) ∧
    (n = 3 → write8 a x s = .ok ⟨⟩ (s.withVia { s.via with ddra := x })) ∧
    (n = 4 ∨ n = 6 → write8 a x s = .ok ⟨⟩ (s.withVia { s.via with t1lL := x })) ∧
    (n = 5 → write8 a x s = .ok ⟨⟩ (s.withVia { s.via with
      t1lH := x, t1c := joinBytes x s.via.t1lL, ifr := s.via.ifr &&& 0x3F, t1Armed := true,
      t1Pb7 := false })) ∧
    (n = 7 → write8 a x s = .ok ⟨⟩ (s.withVia { s.via with t1lH := x, ifr := s.via.ifr &&& 0x3F })) ∧
    (n = 8 → write8 a x s = .ok ⟨⟩ (s.withVia { s.via with t2lL := x })) ∧
    (n = 9 → write8 a x s = .ok ⟨⟩ (s.withVia { s.via with
      t2c := joinBytes x s.via.t2lL, ifr := s.via.ifr &&& 0x5F, t2Armed := true })) ∧
    (n = 10 → write8 a x s = .ok ⟨⟩ (s.withVia { s.via with sr := x })) ∧
    (n = 15 → write8 a x s = .error (.unmodelledViaRegister a) s)

/-- A write of ACR with bits 6-5 at 00 stores it, any other faults with UnsupportedViaAcr. A write of PCR with
CA2 and CB2 each 6 or 7 stores it, /ZERO is active for CA2 = 6 and then puts the beam at the origin and
empties the line buffer at once, the beam is blanked for CB2 = 6; any other value faults with
UnsupportedViaPcr. A faulting write changes nothing. (60_exceptions.md R449; 60_exceptions.md R450;
70_reset_and_hazards.md R509) -/
def Obligations.ViaControlWrites : Prop :=
  ∀ (s : State) (a : Word) (x : Byte), region s.cfg.bus a = .via →
    (a.toNat % 16 = 11 →
      write8 a x s = if x.toNat / 32 % 4 = 0 then .ok ⟨⟩ (s.withVia { s.via with acr := x })
        else .error (.unsupportedViaAcr x) s) ∧
    (a.toNat % 16 = 12 → (x.toNat / 2 % 8 = 6 ∨ x.toNat / 2 % 8 = 7) → (6 ≤ x.toNat / 32) →
      write8 a x s = .ok ⟨⟩ (s.withVia { s.via with
        pcr := x
        zeroActive := decide (x.toNat / 2 % 8 = 6)
        blank := decide (x.toNat / 32 = 6)
        posX := if x.toNat / 2 % 8 = 6 then 0 else s.via.posX
        posY := if x.toNat / 2 % 8 = 6 then 0 else s.via.posY
        lines := if x.toNat / 2 % 8 = 6 then [] else s.via.lines })) ∧
    (a.toNat % 16 = 12 → (x.toNat / 2 % 8 < 6 ∨ x.toNat / 32 < 6) →
      write8 a x s = .error (.unsupportedViaPcr x) s)

/-- Under ignore a write of register 13 or 14 changes nothing. Under mc6522 a write of 13 clears the flags at
its 1-bits and one of 14 sets or clears the enables at its 1-bits as bit 7 says. Under strict the write
changes nothing where it would change nothing, and faults with UnmodelledViaWrite where it would.
(60_exceptions.md R451; 60_exceptions.md R486) -/
def Obligations.ViaFlagAndEnableWrites : Prop :=
  ∀ (s : State) (a : Word) (x : Byte) (n : Nat) (new : Via), region s.cfg.bus a = .via →
    a.toNat % 16 = n →
    (n = 13 ∧ new = { s.via with ifr := new.ifr } ∧
        (∀ k, k < 7 → new.ifr.getLsbD k = (s.via.ifr.getLsbD k && !x.getLsbD k)) ∨
      n = 14 ∧ new = { s.via with ier := new.ier } ∧
        (∀ k, k < 7 → new.ier.getLsbD k = if x.getLsbD k then x.getLsbD 7 else s.via.ier.getLsbD k)) →
    (s.cfg.viaFlagWrites = .ignore → write8 a x s = .ok ⟨⟩ s) ∧
    (s.cfg.viaFlagWrites = .mc6522 → write8 a x s = .ok ⟨⟩ (s.withVia new)) ∧
    (s.cfg.viaFlagWrites = .strict → new = s.via → write8 a x s = .ok ⟨⟩ s) ∧
    (s.cfg.viaFlagWrites = .strict → new ≠ s.via → write8 a x s = .error (.unmodelledViaWrite n x) s)

/-- Through any list of VIA updates: an armed Timer1 has expired exactly when the cycles together exceed its
count; its flag and PB7 are then 1, it is no longer armed, and its counter has gone down by all the cycles
modulo 65536; a Timer1 that is not armed never sets its flag; Timer2 the same with its own flag.
(60_exceptions.md R446; 60_exceptions.md R448) -/
def Obligations.TimersExpireOnce : Prop :=
  ∀ (k : Rat) (v w : Via) (ns : List Nat), w = ns.foldl (fun v n => v.update k n) v →
    w.t1c = v.t1c - BitVec.ofNat 16 ns.sum ∧ w.t2c = v.t2c - BitVec.ofNat 16 ns.sum ∧
    w.t1Armed = (v.t1Armed && decide (ns.sum ≤ v.t1c.toNat)) ∧
    w.t2Armed = (v.t2Armed && decide (ns.sum ≤ v.t2c.toNat)) ∧
    w.t1Pb7 = (v.t1Pb7 || (v.t1Armed && decide (v.t1c.toNat < ns.sum))) ∧
    w.ifr.getLsbD 6 = (v.ifr.getLsbD 6 || (v.t1Armed && decide (v.t1c.toNat < ns.sum))) ∧
    w.ifr.getLsbD 5 = (v.ifr.getLsbD 5 || (v.t2Armed && decide (v.t2c.toNat < ns.sum))) ∧
    ∀ j, j < 5 → w.ifr.getLsbD j = v.ifr.getLsbD j

/-- Through any list of VIA updates: under /ZERO the beam is at the origin (once an update ran) and no line is
appended. /RAMP is Port B bit 7 where ACR bit 7 is 0 and Timer1's output where it is 1. With the ramp off
the beam and the lines stay; with it on the beam moves by gain times (velocity - 128 - offset) times the
cycles together, on each axis, unsigned bytes, and one segment an update, from the old position to the new
with the brightness, is appended exactly where the beam is not blanked and the brightness is above 0. Under
ACR bit 7 a started Timer1 keeps the ramp on through the whole of the update in which it expires, because
/RAMP is sampled before the timers run, and off in every later one. That a lit segment is appended before
the first write of PCR too, where R505 says that no line is drawn, is the model's choice (log 22, DESIGN
CHOICE): it follows R453. (60_exceptions.md R446; 60_exceptions.md R452; 60_exceptions.md R453;
60_exceptions.md R454; 60_exceptions.md R485; 60_exceptions.md R487; 70_reset_and_hazards.md R505;
notes/assumptions/22.md) -/
def Obligations.BeamIntegration : Prop :=
  ∀ (k : Rat) (v w : Via) (ns : List Nat), ns ≠ [] → w = ns.foldl (fun v n => v.update k n) v →
    (v.zeroActive = true → w.posX = 0 ∧ w.posY = 0 ∧ w.lines = v.lines) ∧
    (v.zeroActive = false → (if v.acr.getLsbD 7 then v.t1Pb7 else v.orb.getLsbD 7) = true →
      w.posX = v.posX ∧ w.posY = v.posY ∧ w.lines = v.lines) ∧
    (v.zeroActive = false → (if v.acr.getLsbD 7 then v.t1Pb7 else v.orb.getLsbD 7) = false →
      (v.acr.getLsbD 7 = false ∨ v.t1Armed = true ∧ ns.dropLast.sum ≤ v.t1c.toNat →
        MovedBy k v w ns.sum ∧
        (v.blank = false ∧ 0 < v.brightness.toNat → w.lines.length = v.lines.length + ns.length)) ∧
      (v.acr.getLsbD 7 = true → v.t1Armed = true → ∀ ms n rest, ns = ms ++ n :: rest →
        ms.sum ≤ v.t1c.toNat → v.t1c.toNat < ms.sum + n →
        MovedBy k v w (ms.sum + n) ∧
        (v.blank = false ∧ 0 < v.brightness.toNat →
          w.lines.length = v.lines.length + ms.length + 1)) ∧
      (v.blank = true ∨ v.brightness = 0 → w.lines = v.lines) ∧
      ∀ n, MovedBy k v (v.update k n) n ∧
        (v.blank = false ∧ 0 < v.brightness.toNat → (v.update k n).lines = v.lines ++
          [⟨⟨v.posX, v.posY⟩, ⟨(v.update k n).posX, (v.update k n).posY⟩, v.brightness⟩]))

/-- From any PSG state first brought to Inactive: LatchAddress and then Write with data d leave R[addr] = d
masked and no other register changed, addr the low four bits latched; a following Read drives that masked
value, except that register 14 drives 0xF0 with the complement of the button mask. From any PSG state, in
every mode: staying in the mode does nothing, whatever DA and the button mask become; and a change to the
mode acts alike from each of the other modes. (60_exceptions.md R460 to R463; 60_exceptions.md R469;
60_exceptions.md R488; 60_exceptions.md R489) -/
def Obligations.PsgRegisterProtocol : Prop :=
  ∀ (p : Psg) (n d : Byte) (btn : BitVec 4),
    let idle := psgBus false false d btn p
    let latched := psgBus true true n btn idle
    let written := psgBus true false d btn latched
    let shown := psgBus false true d btn written
    latched.addr = lowNibble n ∧ latched.regs = p.regs ∧
    written.reg (lowNibble n) = d &&& psgMask (lowNibble n) ∧
    (∀ a, a ≠ lowNibble n → written.reg a = p.reg a) ∧
    (lowNibble n ≠ 14 → shown.daOut = d &&& psgMask (lowNibble n)) ∧
    (lowNibble n = 14 → ∀ j, shown.daOut.getLsbD j = (decide (j < 8) && (decide (4 ≤ j) || !btn.getLsbD j))) ∧
    shown.regs = written.regs ∧
    (∀ (bdir bc1 : Bool) (da da' : Byte) (btn' : BitVec 4),
      psgBus bdir bc1 da' btn' (psgBus bdir bc1 da btn p) = psgBus bdir bc1 da btn p) ∧
    (∀ (bdir bc1 : Bool) (da : Byte) (m : PsgMode), p.mode ≠ psgModeOf bdir bc1 → m ≠ psgModeOf bdir bc1 →
      psgBus bdir bc1 da btn { p with mode := m } = psgBus bdir bc1 da btn p)

/-- From a tone generator just reloaded with period P: for the next max(P, 1) - 1 ticks the output stays, on the
tick after them it toggles and the counter is P again, and after as many ticks again all is as at first. A
write of a PSG register changes no counter, and a tick that does not reload does not depend on the period.
(R490) -/
def Obligations.ToneTogglesEveryPeriod : Prop :=
  ∀ (period other : BitVec 12) (out : Bool) (k : Nat) (t : Tone) (p : Psg) (d : Byte) (btn : BitVec 4),
    (k < max 1 period.toNat → ((toneTick period)^[k] ⟨period, out⟩).out = out) ∧
    (toneTick period)^[max 1 period.toNat] ⟨period, out⟩ = ⟨period, !out⟩ ∧
    (toneTick period)^[2 * max 1 period.toNat] ⟨period, out⟩ = ⟨period, out⟩ ∧
    (psgBus true false d btn p).toneA = p.toneA ∧ (psgBus true false d btn p).toneB = p.toneB ∧
    (psgBus true false d btn p).toneC = p.toneC ∧
    (1 < t.cnt.toNat → toneTick other t = toneTick period t)

/-- Over any number of cycles from any divider phase: the samples grow by one each time the phase passes 16, the
phase is kept modulo 16, every new sample lies between 0 and 1/6, and the register file, the latched
address, the mode and the driven value are unchanged. A cycle that does not tick moves the phase alone. On a
tick channel i counts down, or at 1 or below toggles and reloads the period of R[2i+1] bits 3 to 0 and
R[2i], for i = 0 to 2; the sample is then a third of a sixth of the sum over the channels whose bit i of
R[7] is 0 and whose output is 1 of R[8+i] bits 3 to 0 over 16, or of some level between 0 and 1 where bit 4
of R[8+i] is 1. (60_exceptions.md R464 to R468; 60_exceptions.md R491) -/
def Obligations.SampleEverySixteenCycles : Prop :=
  ∀ (p : Psg) (n : Nat), p.div < 16 →
    (psgUpdate n p).div = (p.div + n) % 16 ∧
    (∃ new, (psgUpdate n p).samples = p.samples ++ new ∧ new.length = (p.div + n) / 16 ∧
      ∀ q ∈ new, 0 ≤ q ∧ q ≤ 1 / 6) ∧
    (psgUpdate n p).regs = p.regs ∧ (psgUpdate n p).addr = p.addr ∧ (psgUpdate n p).mode = p.mode ∧
    (psgUpdate n p).daOut = p.daOut ∧
    (p.div < 15 → psgUpdate 1 p = { p with div := p.div + 1 }) ∧
    (p.div = 15 → ∃ q eA eB eC, psgUpdate 1 p = q ∧
      ToneSteps (p.reg 0) (p.reg 1) p.toneA q.toneA ∧ ToneSteps (p.reg 2) (p.reg 3) p.toneB q.toneB ∧
      ToneSteps (p.reg 4) (p.reg 5) p.toneC q.toneC ∧
      (0 ≤ eA ∧ eA ≤ 1) ∧ (0 ≤ eB ∧ eB ≤ 1) ∧ (0 ≤ eC ∧ eC ≤ 1) ∧
      q.samples = p.samples ++ [(soundOf ((p.reg 7).getLsbD 0) q.toneA.out (p.reg 8) eA +
        soundOf ((p.reg 7).getLsbD 1) q.toneB.out (p.reg 9) eB +
        soundOf ((p.reg 7).getLsbD 2) q.toneC.out (p.reg 10) eC) / 3 / 6])

/-- From every state, Reset(pc) leaves PC = pc, CC = 0x50, every other register 0, no fault, no wait, budget and
cycles 0, the VIA and the PSG at their reset values but for the indices of the free values, every byte of
RAM 0 and every byte of both ROMs as it was; emulator.reset() takes pc from the vector at 0xFFFE. The
registers are R502, the rest R43, R500 and R501; that the two indices go on over a reset is the model's
choice (logs 7 and 8, DESIGN CHOICE). (70_reset_and_hazards.md R500; 70_reset_and_hazards.md R501;
70_reset_and_hazards.md R502; 10_state.md R43; notes/assumptions/7.md; notes/assumptions/8.md) -/
def Obligations.ResetState : Prop :=
  ∀ (s : State) (pc a : Word),
    (resetTo pc s).pc = pc ∧ (resetTo pc s).cc = 0x50 ∧ (resetTo pc s).d = 0 ∧ (resetTo pc s).a = 0 ∧
    (resetTo pc s).b = 0 ∧ (resetTo pc s).x = 0 ∧ (resetTo pc s).y = 0 ∧ (resetTo pc s).u = 0 ∧
    (resetTo pc s).sp = 0 ∧ (resetTo pc s).dp = 0 ∧ (resetTo pc s).fault = none ∧
    (resetTo pc s).wait = .none ∧ (resetTo pc s).budget = 0 ∧ (resetTo pc s).cyc = 0 ∧
    (resetTo pc s).via = { Via.reset with draws := s.via.draws } ∧
    (resetTo pc s).psg = { Psg.reset with draws := s.psg.draws } ∧
    (s.cfg.bus = .vectrex → region .vectrex a = .ram → (resetTo pc s).peek a = some 0) ∧
    (s.cfg.bus = .vectrex → region .vectrex a ≠ .ram → (resetTo pc s).peek a = s.peek a) ∧
    (emulatorReset s).pc = s.wordAt 0xFFFE

/-- Under the Vectrex map in canonical memory: load_bios and load_rom of a file that fits answer true, the
region then reads as the image and 0x00 past its end, every other byte and all other state is unchanged; an
unreadable or too long file answers false and changes nothing. (60_exceptions.md R420; 60_exceptions.md
R475; 20_memory.md R64; 20_memory.md R68) -/
def Obligations.ImageLoading : Prop :=
  ∀ (s : State) (img : List Byte) (a : Word), s.mem.wf = true → s.cfg.bus = .vectrex →
    loadBios none s = (false, s) ∧ loadCart none s = (false, s) ∧
    (0x2000 < img.length → loadBios (some img) s = (false, s)) ∧
    (0x8000 < img.length → loadCart (some img) s = (false, s)) ∧
    (img.length ≤ 0x2000 → ∃ m, loadBios (some img) s = (true, s.withMem m) ∧ m.wf = true ∧
      (0xE000 ≤ a.toNat → (s.withMem m).peek a = some (img.getD (a.toNat - 0xE000) 0)) ∧
      (a.toNat < 0xE000 → (s.withMem m).peek a = s.peek a)) ∧
    (img.length ≤ 0x8000 → ∃ m, loadCart (some img) s = (true, s.withMem m) ∧ m.wf = true ∧
      (a.toNat < 0x8000 → (s.withMem m).peek a = some (img.getD a.toNat 0)) ∧
      (0x8000 ≤ a.toNat → (s.withMem m).peek a = s.peek a))

/-- From every state, frame_update(dt) with no quit samples the buttons, ends either with the fault record set
or, where no base count of the configured table is 0, with the budget at or below 0, and leaves both output
lists empty, the fault it returns being the machine's. The lines and samples it returns are those of the
last state of the frame loop, which more fuel would not change where no base count is 0, and the machine is
left as that state with the two lists emptied. The quit flag as an optional number of steps and the fuel of
the loop are the model's choices (log 15, DESIGN CHOICE); that a faulted machine's frame still samples the
buttons and hands out its lists is the model's reading of R471 (log 16, DEDUCED). (60_exceptions.md R471;
60_exceptions.md R472; 60_exceptions.md R493; 70_reset_and_hazards.md R511; notes/assumptions/15.md;
notes/assumptions/16.md) -/
def Obligations.FrameSpendsItsBudget : Prop :=
  ∀ (s : State) (btn : BitVec 4) (dt : Rat),
    (s.cfg.cyclesPositive = true → (frameUpdate btn dt none s).2.fault = none →
      (frameUpdate btn dt none s).2.budget ≤ 0) ∧
    (frameUpdate btn dt none s).2.buttons = btn ∧ (frameUpdate btn dt none s).2.via.lines = [] ∧
    (frameUpdate btn dt none s).2.psg.samples = [] ∧
    (frameUpdate btn dt none s).1.fault = (frameUpdate btn dt none s).2.fault ∧
    ∃ fuel t, frameLoop fuel none (beginFrame btn dt s) = t ∧
      (s.cfg.cyclesPositive = true → ∀ more, frameLoop (fuel + more) none (beginFrame btn dt s) = t) ∧
      (frameUpdate btn dt none s).1.lines = t.via.lines ∧
      (frameUpdate btn dt none s).1.samples = t.psg.samples ∧
      (frameUpdate btn dt none s).2 =
        (t.withVia { t.via with lines := [] }).withPsg { t.psg with samples := [] }
end

