-- ==== Sys2Proof/Laws/Cycles.lean ====
section
/-!
SUPPORT. The base cycle counts (spec/00_scope.md R6, spec/30_encoding.md R118, spec/70_reset_and_hazards.md R511).
-/
namespace Sys2Proof.Machine

@[simp] theorem cyclesAt_nil (row : Page × Byte) (n : Nat) : cyclesAt [] row n = n := rfl

/-- This hardware's table is R118's. -/
@[simp] theorem baseCycles_hardware (i : Instr) : baseCycles Config.hardware i = defaultCycles i := rfl

/-- A table's count is one of its entries' or R118's own. -/
theorem cyclesAt_mem (es : List CycleEntry) (row : Page × Byte) (n : Nat) :
    cyclesAt es row n = n ∨ ∃ e ∈ es, cyclesAt es row n = e.cycles := by
  induction es with
  | nil => exact .inl rfl
  | cons e rest ih =>
    rw [cyclesAt]
    split
    · exact .inr ⟨e, by simp, rfl⟩
    · exact ih.imp_right fun ⟨e', h, he⟩ => ⟨e', by simp [h], he⟩

/-- Where no count of the table is 0, no instruction's base count is 0. -/
theorem one_le_baseCycles {c : Config} (hc : c.cyclesPositive = true) {i : Instr} (hi : 1 ≤ defaultCycles i) :
    1 ≤ baseCycles c i := by
  rcases cyclesAt_mem c.baseCycles (opcodeOf i) (defaultCycles i) with h | ⟨e, he, h⟩
  · exact hi.trans_eq h.symm
  · exact (of_decide_eq_true (List.all_eq_true.mp hc e he)).trans_eq h.symm

end Sys2Proof.Machine
end

