-- ==== Sys2Proof/Laws/Flags.lean ====
section
/-!
SUPPORT. What the flag operations do to each flag, and addition and subtraction in exact arithmetic.
-/
namespace Sys2Proof.Machine

/-- A flag after one flag is written: the value given, and every other flag kept. -/
@[simp] theorem flag_putFlag (g k : Flag) (v : Bool) (cc : Byte) :
    flag g (putFlag k v cc) = if g = k then v else flag g cc := by
  cases v <;> cases g <;> cases k <;> simp [flag, putFlag, Flag.pos]

@[simp] theorem flag_putNZ {w : Nat} (g : Flag) (r : BitVec w) (cc : Byte) :
    flag g (putNZ r cc) = if g = .z then r == 0 else if g = .n then r.msb else flag g cc := by
  simp [putNZ]

@[simp] theorem flag_putNZ0 {w : Nat} (g : Flag) (r : BitVec w) (cc : Byte) :
    flag g (putNZ0 r cc) =
      if g = .v then false else if g = .z then r == 0 else if g = .n then r.msb else flag g cc := by
  simp [putNZ0]

@[simp] theorem flag_putNZVC {w : Nat} (g : Flag) (t : Arith w) (cc : Byte) :
    flag g (putNZVC t cc) =
      if g = .c then t.c else if g = .v then t.v else if g = .z then t.z else if g = .n then t.n
      else flag g cc := by
  simp [putNZVC]

/-- The flags of a CC value are all there is to it. -/
theorem cc_ext {c d : Byte} (h : ∀ g, flag g c = flag g d) : c = d := by
  apply BitVec.eq_of_getLsbD_eq
  intro i hi
  have h0 := h .c; have h1 := h .v; have h2 := h .z; have h3 := h .n
  have h4 := h .i; have h5 := h .h; have h6 := h .f; have h7 := h .e
  simp only [flag, Flag.pos] at h0 h1 h2 h3 h4 h5 h6 h7
  have : i = 0 ∨ i = 1 ∨ i = 2 ∨ i = 3 ∨ i = 4 ∨ i = 5 ∨ i = 6 ∨ i = 7 := by omega
  rcases this with rfl | rfl | rfl | rfl | rfl | rfl | rfl | rfl <;> assumption

/-- The top bit of a byte, as an inequality. -/
theorem msb_eq_neg8 (r : Byte) : r.msb = neg8 r := by
  rw [BitVec.msb_eq_decide]; rfl

/-- The top bit of a word, as an inequality. -/
theorem msb_eq_neg16 (r : Word) : r.msb = neg16 r := by
  rw [BitVec.msb_eq_decide]; rfl

theorem carryIn_toNat (w : Nat) (hw : 0 < w) (c : Bool) : (carryIn w c).toNat = c.toNat := by
  have h2 : 2 ≤ 2 ^ w := by
    calc 2 = 2 ^ 1 := rfl
      _ ≤ 2 ^ w := Nat.pow_le_pow_right (by omega) hw
  cases c <;> simp [carryIn]
  omega

/-- The wide sum is the exact sum. -/
theorem wideSum_toNat {w : Nat} (hw : 0 < w) (a b : BitVec w) (c : Bool) :
    (a.zeroExtend (w + 1) + b.zeroExtend (w + 1) + carryIn (w + 1) c).toNat = a.toNat + b.toNat + c.toNat := by
  have ha := a.isLt
  have hb := b.isLt
  have hc : c.toNat ≤ 1 := by cases c <;> simp
  have hp : 2 ^ (w + 1) = 2 * 2 ^ w := by rw [Nat.pow_succ]; omega
  have h2 : 2 ≤ 2 ^ w := by
    calc 2 = 2 ^ 1 := rfl
      _ ≤ 2 ^ w := Nat.pow_le_pow_right (by omega) hw
  rw [BitVec.toNat_add, BitVec.toNat_add, carryIn_toNat _ (by omega)]
  simp only [BitVec.truncate_eq_setWidth, BitVec.toNat_setWidth]
  rw [Nat.mod_eq_of_lt (a := a.toNat) (by omega), Nat.mod_eq_of_lt (a := b.toNat) (by omega),
    Nat.mod_eq_of_lt (a := a.toNat + b.toNat) (by omega), Nat.mod_eq_of_lt (by omega)]

/-- The result of an addition. -/
theorem addWide_r {w : Nat} (hw : 0 < w) (a b : BitVec w) (c : Bool) :
    (addWide a b c).r = BitVec.ofNat w (a.toNat + b.toNat + c.toNat) := by
  apply BitVec.eq_of_toNat_eq
  change (BitVec.truncate w _).toNat = _
  rw [BitVec.truncate_eq_setWidth, BitVec.toNat_setWidth, wideSum_toNat hw, BitVec.toNat_ofNat]

/-- The carry of an addition. -/
theorem addWide_c {w : Nat} (hw : 0 < w) (a b : BitVec w) (c : Bool) :
    (addWide a b c).c = decide (2 ^ w ≤ a.toNat + b.toNat + c.toNat) := by
  have e := wideSum_toNat hw a b c
  unfold addWide
  simp only
  rw [BitVec.msb_eq_decide, e]
  simp

theorem addWide_n {w : Nat} (a b : BitVec w) (c : Bool) : (addWide a b c).n = (addWide a b c).r.msb := rfl

theorem addWide_z {w : Nat} (a b : BitVec w) (c : Bool) : (addWide a b c).z = ((addWide a b c).r == 0) := rfl

theorem addWide_v {w : Nat} (a b : BitVec w) (c : Bool) :
    (addWide a b c).v = ((a.msb ^^ (addWide a b c).r.msb) && (b.msb ^^ (addWide a b c).r.msb)) := by
  change (((a ^^^ (addWide a b c).r) &&& (b ^^^ (addWide a b c).r))).msb = _
  simp

/-- The overflow of an 8-bit addition: the signed sum does not fit. -/
theorem add8_v (a b : Byte) (c : Bool) :
    (add8 a b c).v = outside8 (a.toInt + b.toInt + c.toNat) := by
  have ha := a.isLt
  have hb := b.isLt
  have hc : c.toNat ≤ 1 := by cases c <;> simp
  unfold add8
  rw [addWide_v, addWide_r (by omega)]
  simp only [BitVec.msb_eq_decide, BitVec.toNat_ofNat, outside8, BitVec.toInt_eq_toNat_cond]
  rw [Bool.eq_iff_iff]
  simp only [Bool.and_eq_true, bne_iff_ne, ne_eq, decide_eq_decide, decide_eq_true_eq]
  omega

/-- The overflow of a 16-bit addition: the signed sum does not fit. -/
theorem addWide16_v (a b : Word) (c : Bool) :
    (addWide a b c).v = outside16 (a.toInt + b.toInt + c.toNat) := by
  have ha := a.isLt
  have hb := b.isLt
  have hc : c.toNat ≤ 1 := by cases c <;> simp
  rw [addWide_v, addWide_r (by omega)]
  simp only [BitVec.msb_eq_decide, BitVec.toNat_ofNat, outside16, BitVec.toInt_eq_toNat_cond]
  rw [Bool.eq_iff_iff]
  simp only [Bool.and_eq_true, bne_iff_ne, ne_eq, decide_eq_decide, decide_eq_true_eq]
  omega

/-- The half carry of an addition. -/
theorem halfCarry_eq (a b : Byte) (c : Bool) :
    halfCarry a b c = decide (15 < a.toNat % 16 + b.toNat % 16 + c.toNat) := by
  unfold halfCarry lowNibble
  rw [decide_eq_decide]
  simp only [BitVec.extractLsb'_toNat, Nat.shiftRight_zero, Nat.reducePow]

/-- The complement of a byte, unsigned. -/
theorem not8_toNat (b : Byte) : (~~~b).toNat = 255 - b.toNat := by
  rw [BitVec.toNat_not]

/-- The complement of a word, unsigned. -/
theorem not16_toNat (b : Word) : (~~~b).toNat = 65535 - b.toNat := by
  rw [BitVec.toNat_not]

/-- A subtraction by adding the complement, with the borrow `c` inverted on the way in: the result. -/
theorem subBorrow8_r (a b : Byte) (c : Bool) :
    (add8 a (~~~b) (!c)).r = BitVec.ofInt 8 (a.toNat - b.toNat - c.toNat) := by
  have ha := a.isLt
  have hb := b.isLt
  apply BitVec.eq_of_toNat_eq
  unfold add8
  rw [addWide_r (by omega), not8_toNat, BitVec.toNat_ofNat, BitVec.toNat_ofInt]
  cases c <;> simp <;> omega

/-- The borrow of that subtraction. -/
theorem subBorrow8_c (a b : Byte) (c : Bool) :
    (!(add8 a (~~~b) (!c)).c) = decide (a.toNat < b.toNat + c.toNat) := by
  have ha := a.isLt
  have hb := b.isLt
  unfold add8
  rw [addWide_c (by omega), not8_toNat, ← decide_not, decide_eq_decide]
  cases c <;> simp <;> omega

/-- The overflow of that subtraction: the signed difference does not fit. -/
theorem subBorrow8_v (a b : Byte) (c : Bool) :
    (add8 a (~~~b) (!c)).v = outside8 (a.toInt - b.toInt - c.toNat) := by
  have ha := a.isLt
  have hb := b.isLt
  rw [add8_v]
  simp only [outside8, BitVec.toInt_eq_toNat_cond, not8_toNat]
  rw [decide_eq_decide]
  cases c <;> simp <;> omega

/-- The difference of two bytes. -/
theorem sub8_r (a b : Byte) : (sub8 a b).r = BitVec.ofInt 8 (a.toNat - b.toNat) := by
  have e := subBorrow8_r a b false
  simp only [Bool.toNat_false, Nat.cast_zero, sub_zero, Bool.not_false] at e
  exact e

/-- The borrow of two bytes. -/
theorem sub8_c (a b : Byte) : (sub8 a b).c = decide (a.toNat < b.toNat) := by
  have e := subBorrow8_c a b false
  simp only [Bool.toNat_false, Nat.add_zero, Bool.not_false] at e
  exact e

/-- The overflow of a difference of two bytes. -/
theorem sub8_v (a b : Byte) : (sub8 a b).v = outside8 (a.toInt - b.toInt) := by
  have e := subBorrow8_v a b false
  simp only [Bool.toNat_false, Nat.cast_zero, sub_zero, Bool.not_false] at e
  exact e

theorem sub8_n (a b : Byte) : (sub8 a b).n = (sub8 a b).r.msb := rfl

theorem sub8_z (a b : Byte) : (sub8 a b).z = ((sub8 a b).r == 0) := rfl

/-- The difference of two words. -/
theorem sub16_r (a b : Word) : (sub16 a b).r = BitVec.ofInt 16 (a.toNat - b.toNat) := by
  have ha := a.isLt
  have hb := b.isLt
  apply BitVec.eq_of_toNat_eq
  change (addWide a (~~~b) true).r.toNat = _
  rw [addWide_r (by omega), not16_toNat, BitVec.toNat_ofNat, BitVec.toNat_ofInt]
  simp
  omega

/-- The borrow of two words. -/
theorem sub16_c (a b : Word) : (sub16 a b).c = decide (a.toNat < b.toNat) := by
  have ha := a.isLt
  have hb := b.isLt
  change (!(addWide a (~~~b) true).c) = _
  rw [addWide_c (by omega), not16_toNat, ← decide_not, decide_eq_decide]
  simp
  omega

/-- The overflow of a difference of two words. -/
theorem sub16_v (a b : Word) : (sub16 a b).v = outside16 (a.toInt - b.toInt) := by
  have ha := a.isLt
  have hb := b.isLt
  change (addWide a (~~~b) true).v = _
  rw [addWide16_v]
  simp only [outside16, BitVec.toInt_eq_toNat_cond, not16_toNat]
  rw [decide_eq_decide]
  simp
  omega

theorem sub16_n (a b : Word) : (sub16 a b).n = (sub16 a b).r.msb := rfl

theorem sub16_z (a b : Word) : (sub16 a b).z = ((sub16 a b).r == 0) := rfl

end Sys2Proof.Machine
end

