-- ==== Sys2Proof/Laws/Memory.lean ====
section
/-!
SUPPORT. The laws of the cell list: a byte reads as it was written, every other byte is left alone, and every
operation keeps the canonical form.
-/
namespace Sys2Proof.Machine

@[simp] theorem Memory.get_nil (a : Nat) : Memory.get [] a = Memory.unlisted := rfl

theorem Memory.get_cons (k : Nat) (v : Byte) (m : Memory) (a : Nat) :
    Memory.get ((k, v) :: m) a = if a = k then v else Memory.get m a := rfl

/-- Nothing below the first address of a canonical list is listed. -/
theorem Memory.get_below (m : Memory) :
    ∀ low, Memory.wfFrom low m = true → ∀ a, a < low → m.get a = Memory.unlisted := by
  induction m with
  | nil => intros; rfl
  | cons c m ih =>
    obtain ⟨k, v⟩ := c
    intro low h a ha
    simp only [Memory.wfFrom, Bool.and_eq_true, decide_eq_true_eq] at h
    rw [Memory.get_cons, if_neg (by omega)]
    exact ih _ h.2 a (by omega)

/-- A lower bound on the addresses may be lowered. -/
theorem Memory.wfFrom_mono (m : Memory) {low high : Nat} (hl : low ≤ high)
    (h : Memory.wfFrom high m = true) : Memory.wfFrom low m = true := by
  cases m with
  | nil => rfl
  | cons c m =>
    obtain ⟨k, v⟩ := c
    simp only [Memory.wfFrom, Bool.and_eq_true, decide_eq_true_eq] at h ⊢
    exact ⟨⟨by omega, h.1.2⟩, h.2⟩

/-- A write leaves every other byte alone. -/
theorem Memory.get_put_other (m : Memory) (a b : Nat) (v : Byte) (h : b ≠ a) :
    (m.put a v).get b = m.get b := by
  induction m with
  | nil =>
    rw [Memory.put]
    split
    · rfl
    · rw [Memory.get_cons, if_neg h]
  | cons c m ih =>
    obtain ⟨k, w⟩ := c
    rw [Memory.put]
    split
    · split
      · rfl
      · rw [Memory.get_cons, if_neg h]
    · split
      · next hk =>
        subst hk
        split
        · rw [Memory.get_cons, if_neg h]
        · rw [Memory.get_cons, Memory.get_cons, if_neg h, if_neg h]
      · rw [Memory.get_cons, Memory.get_cons, ih]

/-- A byte reads as it was written. -/
theorem Memory.get_put_same_from (m : Memory) :
    ∀ low, Memory.wfFrom low m = true → ∀ a v, (m.put a v).get a = v := by
  induction m with
  | nil =>
    intro low _ a v
    rw [Memory.put]
    split
    · next h => rw [h]; rfl
    · rw [Memory.get_cons, if_pos rfl]
  | cons c m ih =>
    obtain ⟨k, w⟩ := c
    intro low h a v
    simp only [Memory.wfFrom, Bool.and_eq_true, decide_eq_true_eq] at h
    rw [Memory.put]
    split
    · next hlt =>
      split
      · next hv =>
        rw [hv, Memory.get_cons, if_neg (by omega)]
        exact Memory.get_below m (k + 1) h.2 a (by omega)
      · rw [Memory.get_cons, if_pos rfl]
    · split
      · next hk =>
        split
        · next hv =>
          rw [hv]
          exact Memory.get_below m (k + 1) h.2 a (by omega)
        · rw [Memory.get_cons, if_pos rfl]
      · next hk =>
        rw [Memory.get_cons, if_neg hk]
        exact ih _ h.2 a v

/-- A byte of a canonical memory reads as it was written. -/
theorem Memory.get_put_same (m : Memory) (h : m.wf = true) (a : Nat) (v : Byte) :
    (m.put a v).get a = v :=
  Memory.get_put_same_from m 0 h a v

theorem Memory.wfFrom_put (m : Memory) (a : Nat) (v : Byte) :
    ∀ low, low ≤ a → Memory.wfFrom low m = true → Memory.wfFrom low (m.put a v) = true := by
  induction m with
  | nil =>
    intro low hl _
    rw [Memory.put]
    split
    · rfl
    · next hv => simp [Memory.wfFrom, hl, hv]
  | cons c m ih =>
    obtain ⟨k, w⟩ := c
    intro low hl h
    have h' := h
    simp only [Memory.wfFrom, Bool.and_eq_true, decide_eq_true_eq] at h
    rw [Memory.put]
    split
    · next hlt =>
      split
      · exact h'
      · next hv =>
        simp only [Memory.wfFrom, Bool.and_eq_true, decide_eq_true_eq]
        exact ⟨⟨hl, by simpa using hv⟩, ⟨by omega, h.1.2⟩, h.2⟩
    · split
      · next hk =>
        split
        · exact Memory.wfFrom_mono m (by omega) h.2
        · next hv =>
          simp only [Memory.wfFrom, Bool.and_eq_true, decide_eq_true_eq]
          exact ⟨⟨hl, by simpa using hv⟩, by rw [hk]; exact h.2⟩
      · next hlt hk =>
        simp only [Memory.wfFrom, Bool.and_eq_true, decide_eq_true_eq]
        exact ⟨h.1, ih _ (by omega) h.2⟩

/-- A write keeps the canonical form. -/
theorem Memory.wf_put (m : Memory) (h : m.wf = true) (a : Nat) (v : Byte) : (m.put a v).wf = true :=
  Memory.wfFrom_put m a v 0 (Nat.zero_le a) h

theorem Memory.wfFrom_filter (m : Memory) (p : Host.Cell → Bool) :
    ∀ low, Memory.wfFrom low m = true → Memory.wfFrom low (m.filter p) = true := by
  induction m with
  | nil => intros; rfl
  | cons c m ih =>
    obtain ⟨k, v⟩ := c
    intro low h
    simp only [Memory.wfFrom, Bool.and_eq_true, decide_eq_true_eq] at h
    rw [List.filter_cons]
    split
    · simp only [Memory.wfFrom, Bool.and_eq_true, decide_eq_true_eq]
      exact ⟨h.1, ih _ h.2⟩
    · exact Memory.wfFrom_mono _ (by omega) (ih _ h.2)

/-- Clearing a region keeps the canonical form. -/
theorem Memory.wf_clear (m : Memory) (h : m.wf = true) (base size : Nat) :
    (m.clear base size).wf = true :=
  Memory.wfFrom_filter m _ 0 h

/-- Storing an image keeps the canonical form. -/
theorem Memory.wf_putAll (img : List Byte) :
    ∀ (m : Memory) (a : Nat), m.wf = true → (m.putAll a img).wf = true := by
  induction img with
  | nil => intro m a h; exact h
  | cons v img ih => intro m a h; exact ih _ _ (Memory.wf_put m h a v)

/-- The memory after reset is in canonical form. -/
theorem Memory.wf_reset : State.reset.mem.wf = true := rfl

/-- A reset keeps the canonical form. -/
theorem Memory.wf_resetMem (bus : BusConfig) (m : Memory) (h : m.wf = true) :
    (resetMem bus m).wf = true := by
  cases bus
  · exact Memory.wf_clear m h _ _
  · rfl

/-- A write lists no address but the one it writes. -/
theorem Memory.mem_put (m : Memory) (a : Nat) (v : Byte) (c : Host.Cell) (h : c ∈ m.put a v) :
    c.1 = a ∨ c ∈ m := by
  induction m with
  | nil =>
    rw [Memory.put] at h
    split at h
    · exact absurd h (by simp)
    · simp at h; exact .inl (by rw [h])
  | cons d m ih =>
    obtain ⟨k, w⟩ := d
    rw [Memory.put] at h
    split at h
    · split at h
      · exact .inr h
      · rcases List.mem_cons.1 h with h | h
        · exact .inl (by rw [h])
        · exact .inr h
    · split at h
      · split at h
        · exact .inr (List.mem_cons_of_mem _ h)
        · rcases List.mem_cons.1 h with h | h
          · exact .inl (by rw [h])
          · exact .inr (List.mem_cons_of_mem _ h)
      · rcases List.mem_cons.1 h with h | h
        · exact .inr (by rw [h]; exact List.mem_cons_self)
        · rcases ih h with h | h
          · exact .inl h
          · exact .inr (List.mem_cons_of_mem _ h)

/-- Every byte is stored at a key of the 16-bit address space. -/
theorem cellKey_lt (bus : BusConfig) (a : Word) : cellKey bus a < 0x10000 := by
  have := a.isLt
  unfold cellKey
  split <;> omega

end Sys2Proof.Machine
end

