-- ==== Sys2Proof/Laws/State.lean ====
section
/-!
SUPPORT. One lemma per field per update of State, all by `rfl`, so that no proof unfolds a record update.
-/
namespace Sys2Proof.Machine

/-! ## withCC -/

@[simp] theorem State.withCC_a (s : State) (v : Byte) : (s.withCC v).a = s.a := rfl
@[simp] theorem State.withCC_b (s : State) (v : Byte) : (s.withCC v).b = s.b := rfl
@[simp] theorem State.withCC_x (s : State) (v : Byte) : (s.withCC v).x = s.x := rfl
@[simp] theorem State.withCC_y (s : State) (v : Byte) : (s.withCC v).y = s.y := rfl
@[simp] theorem State.withCC_u (s : State) (v : Byte) : (s.withCC v).u = s.u := rfl
@[simp] theorem State.withCC_sp (s : State) (v : Byte) : (s.withCC v).sp = s.sp := rfl
@[simp] theorem State.withCC_pc (s : State) (v : Byte) : (s.withCC v).pc = s.pc := rfl
@[simp] theorem State.withCC_dp (s : State) (v : Byte) : (s.withCC v).dp = s.dp := rfl
@[simp] theorem State.withCC_cc (s : State) (v : Byte) : (s.withCC v).cc = v := rfl
@[simp] theorem State.withCC_cyc (s : State) (v : Byte) : (s.withCC v).cyc = s.cyc := rfl
@[simp] theorem State.withCC_pc0 (s : State) (v : Byte) : (s.withCC v).pc0 = s.pc0 := rfl
@[simp] theorem State.withCC_wait (s : State) (v : Byte) : (s.withCC v).wait = s.wait := rfl
@[simp] theorem State.withCC_fault (s : State) (v : Byte) : (s.withCC v).fault = s.fault := rfl
@[simp] theorem State.withCC_budget (s : State) (v : Byte) : (s.withCC v).budget = s.budget := rfl
@[simp] theorem State.withCC_buttons (s : State) (v : Byte) : (s.withCC v).buttons = s.buttons := rfl
@[simp] theorem State.withCC_mem (s : State) (v : Byte) : (s.withCC v).mem = s.mem := rfl
@[simp] theorem State.withCC_via (s : State) (v : Byte) : (s.withCC v).via = s.via := rfl
@[simp] theorem State.withCC_psg (s : State) (v : Byte) : (s.withCC v).psg = s.psg := rfl
@[simp] theorem State.withCC_cfg (s : State) (v : Byte) : (s.withCC v).cfg = s.cfg := rfl

/-! ## withPC -/

@[simp] theorem State.withPC_a (s : State) (v : Word) : (s.withPC v).a = s.a := rfl
@[simp] theorem State.withPC_b (s : State) (v : Word) : (s.withPC v).b = s.b := rfl
@[simp] theorem State.withPC_x (s : State) (v : Word) : (s.withPC v).x = s.x := rfl
@[simp] theorem State.withPC_y (s : State) (v : Word) : (s.withPC v).y = s.y := rfl
@[simp] theorem State.withPC_u (s : State) (v : Word) : (s.withPC v).u = s.u := rfl
@[simp] theorem State.withPC_sp (s : State) (v : Word) : (s.withPC v).sp = s.sp := rfl
@[simp] theorem State.withPC_pc (s : State) (v : Word) : (s.withPC v).pc = v := rfl
@[simp] theorem State.withPC_dp (s : State) (v : Word) : (s.withPC v).dp = s.dp := rfl
@[simp] theorem State.withPC_cc (s : State) (v : Word) : (s.withPC v).cc = s.cc := rfl
@[simp] theorem State.withPC_cyc (s : State) (v : Word) : (s.withPC v).cyc = s.cyc := rfl
@[simp] theorem State.withPC_pc0 (s : State) (v : Word) : (s.withPC v).pc0 = s.pc0 := rfl
@[simp] theorem State.withPC_wait (s : State) (v : Word) : (s.withPC v).wait = s.wait := rfl
@[simp] theorem State.withPC_fault (s : State) (v : Word) : (s.withPC v).fault = s.fault := rfl
@[simp] theorem State.withPC_budget (s : State) (v : Word) : (s.withPC v).budget = s.budget := rfl
@[simp] theorem State.withPC_buttons (s : State) (v : Word) : (s.withPC v).buttons = s.buttons := rfl
@[simp] theorem State.withPC_mem (s : State) (v : Word) : (s.withPC v).mem = s.mem := rfl
@[simp] theorem State.withPC_via (s : State) (v : Word) : (s.withPC v).via = s.via := rfl
@[simp] theorem State.withPC_psg (s : State) (v : Word) : (s.withPC v).psg = s.psg := rfl
@[simp] theorem State.withPC_cfg (s : State) (v : Word) : (s.withPC v).cfg = s.cfg := rfl

/-! ## withCyc -/

@[simp] theorem State.withCyc_a (s : State) (v : Nat) : (s.withCyc v).a = s.a := rfl
@[simp] theorem State.withCyc_b (s : State) (v : Nat) : (s.withCyc v).b = s.b := rfl
@[simp] theorem State.withCyc_x (s : State) (v : Nat) : (s.withCyc v).x = s.x := rfl
@[simp] theorem State.withCyc_y (s : State) (v : Nat) : (s.withCyc v).y = s.y := rfl
@[simp] theorem State.withCyc_u (s : State) (v : Nat) : (s.withCyc v).u = s.u := rfl
@[simp] theorem State.withCyc_sp (s : State) (v : Nat) : (s.withCyc v).sp = s.sp := rfl
@[simp] theorem State.withCyc_pc (s : State) (v : Nat) : (s.withCyc v).pc = s.pc := rfl
@[simp] theorem State.withCyc_dp (s : State) (v : Nat) : (s.withCyc v).dp = s.dp := rfl
@[simp] theorem State.withCyc_cc (s : State) (v : Nat) : (s.withCyc v).cc = s.cc := rfl
@[simp] theorem State.withCyc_cyc (s : State) (v : Nat) : (s.withCyc v).cyc = v := rfl
@[simp] theorem State.withCyc_pc0 (s : State) (v : Nat) : (s.withCyc v).pc0 = s.pc0 := rfl
@[simp] theorem State.withCyc_wait (s : State) (v : Nat) : (s.withCyc v).wait = s.wait := rfl
@[simp] theorem State.withCyc_fault (s : State) (v : Nat) : (s.withCyc v).fault = s.fault := rfl
@[simp] theorem State.withCyc_budget (s : State) (v : Nat) : (s.withCyc v).budget = s.budget := rfl
@[simp] theorem State.withCyc_buttons (s : State) (v : Nat) : (s.withCyc v).buttons = s.buttons := rfl
@[simp] theorem State.withCyc_mem (s : State) (v : Nat) : (s.withCyc v).mem = s.mem := rfl
@[simp] theorem State.withCyc_via (s : State) (v : Nat) : (s.withCyc v).via = s.via := rfl
@[simp] theorem State.withCyc_psg (s : State) (v : Nat) : (s.withCyc v).psg = s.psg := rfl
@[simp] theorem State.withCyc_cfg (s : State) (v : Nat) : (s.withCyc v).cfg = s.cfg := rfl

/-! ## withPc0 -/

@[simp] theorem State.withPc0_a (s : State) (v : Word) : (s.withPc0 v).a = s.a := rfl
@[simp] theorem State.withPc0_b (s : State) (v : Word) : (s.withPc0 v).b = s.b := rfl
@[simp] theorem State.withPc0_x (s : State) (v : Word) : (s.withPc0 v).x = s.x := rfl
@[simp] theorem State.withPc0_y (s : State) (v : Word) : (s.withPc0 v).y = s.y := rfl
@[simp] theorem State.withPc0_u (s : State) (v : Word) : (s.withPc0 v).u = s.u := rfl
@[simp] theorem State.withPc0_sp (s : State) (v : Word) : (s.withPc0 v).sp = s.sp := rfl
@[simp] theorem State.withPc0_pc (s : State) (v : Word) : (s.withPc0 v).pc = s.pc := rfl
@[simp] theorem State.withPc0_dp (s : State) (v : Word) : (s.withPc0 v).dp = s.dp := rfl
@[simp] theorem State.withPc0_cc (s : State) (v : Word) : (s.withPc0 v).cc = s.cc := rfl
@[simp] theorem State.withPc0_cyc (s : State) (v : Word) : (s.withPc0 v).cyc = s.cyc := rfl
@[simp] theorem State.withPc0_pc0 (s : State) (v : Word) : (s.withPc0 v).pc0 = v := rfl
@[simp] theorem State.withPc0_wait (s : State) (v : Word) : (s.withPc0 v).wait = s.wait := rfl
@[simp] theorem State.withPc0_fault (s : State) (v : Word) : (s.withPc0 v).fault = s.fault := rfl
@[simp] theorem State.withPc0_budget (s : State) (v : Word) : (s.withPc0 v).budget = s.budget := rfl
@[simp] theorem State.withPc0_buttons (s : State) (v : Word) : (s.withPc0 v).buttons = s.buttons := rfl
@[simp] theorem State.withPc0_mem (s : State) (v : Word) : (s.withPc0 v).mem = s.mem := rfl
@[simp] theorem State.withPc0_via (s : State) (v : Word) : (s.withPc0 v).via = s.via := rfl
@[simp] theorem State.withPc0_psg (s : State) (v : Word) : (s.withPc0 v).psg = s.psg := rfl
@[simp] theorem State.withPc0_cfg (s : State) (v : Word) : (s.withPc0 v).cfg = s.cfg := rfl

/-! ## withWait -/

@[simp] theorem State.withWait_a (s : State) (v : WaitState) : (s.withWait v).a = s.a := rfl
@[simp] theorem State.withWait_b (s : State) (v : WaitState) : (s.withWait v).b = s.b := rfl
@[simp] theorem State.withWait_x (s : State) (v : WaitState) : (s.withWait v).x = s.x := rfl
@[simp] theorem State.withWait_y (s : State) (v : WaitState) : (s.withWait v).y = s.y := rfl
@[simp] theorem State.withWait_u (s : State) (v : WaitState) : (s.withWait v).u = s.u := rfl
@[simp] theorem State.withWait_sp (s : State) (v : WaitState) : (s.withWait v).sp = s.sp := rfl
@[simp] theorem State.withWait_pc (s : State) (v : WaitState) : (s.withWait v).pc = s.pc := rfl
@[simp] theorem State.withWait_dp (s : State) (v : WaitState) : (s.withWait v).dp = s.dp := rfl
@[simp] theorem State.withWait_cc (s : State) (v : WaitState) : (s.withWait v).cc = s.cc := rfl
@[simp] theorem State.withWait_cyc (s : State) (v : WaitState) : (s.withWait v).cyc = s.cyc := rfl
@[simp] theorem State.withWait_pc0 (s : State) (v : WaitState) : (s.withWait v).pc0 = s.pc0 := rfl
@[simp] theorem State.withWait_wait (s : State) (v : WaitState) : (s.withWait v).wait = v := rfl
@[simp] theorem State.withWait_fault (s : State) (v : WaitState) : (s.withWait v).fault = s.fault := rfl
@[simp] theorem State.withWait_budget (s : State) (v : WaitState) : (s.withWait v).budget = s.budget := rfl
@[simp] theorem State.withWait_buttons (s : State) (v : WaitState) : (s.withWait v).buttons = s.buttons := rfl
@[simp] theorem State.withWait_mem (s : State) (v : WaitState) : (s.withWait v).mem = s.mem := rfl
@[simp] theorem State.withWait_via (s : State) (v : WaitState) : (s.withWait v).via = s.via := rfl
@[simp] theorem State.withWait_psg (s : State) (v : WaitState) : (s.withWait v).psg = s.psg := rfl
@[simp] theorem State.withWait_cfg (s : State) (v : WaitState) : (s.withWait v).cfg = s.cfg := rfl

/-! ## withFault -/

@[simp] theorem State.withFault_a (s : State) (v : Option FaultRecord) : (s.withFault v).a = s.a := rfl
@[simp] theorem State.withFault_b (s : State) (v : Option FaultRecord) : (s.withFault v).b = s.b := rfl
@[simp] theorem State.withFault_x (s : State) (v : Option FaultRecord) : (s.withFault v).x = s.x := rfl
@[simp] theorem State.withFault_y (s : State) (v : Option FaultRecord) : (s.withFault v).y = s.y := rfl
@[simp] theorem State.withFault_u (s : State) (v : Option FaultRecord) : (s.withFault v).u = s.u := rfl
@[simp] theorem State.withFault_sp (s : State) (v : Option FaultRecord) : (s.withFault v).sp = s.sp := rfl
@[simp] theorem State.withFault_pc (s : State) (v : Option FaultRecord) : (s.withFault v).pc = s.pc := rfl
@[simp] theorem State.withFault_dp (s : State) (v : Option FaultRecord) : (s.withFault v).dp = s.dp := rfl
@[simp] theorem State.withFault_cc (s : State) (v : Option FaultRecord) : (s.withFault v).cc = s.cc := rfl
@[simp] theorem State.withFault_cyc (s : State) (v : Option FaultRecord) : (s.withFault v).cyc = s.cyc := rfl
@[simp] theorem State.withFault_pc0 (s : State) (v : Option FaultRecord) : (s.withFault v).pc0 = s.pc0 := rfl
@[simp] theorem State.withFault_wait (s : State) (v : Option FaultRecord) : (s.withFault v).wait = s.wait := rfl
@[simp] theorem State.withFault_fault (s : State) (v : Option FaultRecord) : (s.withFault v).fault = v := rfl
@[simp] theorem State.withFault_budget (s : State) (v : Option FaultRecord) : (s.withFault v).budget = s.budget := rfl
@[simp] theorem State.withFault_buttons (s : State) (v : Option FaultRecord) : (s.withFault v).buttons = s.buttons := rfl
@[simp] theorem State.withFault_mem (s : State) (v : Option FaultRecord) : (s.withFault v).mem = s.mem := rfl
@[simp] theorem State.withFault_via (s : State) (v : Option FaultRecord) : (s.withFault v).via = s.via := rfl
@[simp] theorem State.withFault_psg (s : State) (v : Option FaultRecord) : (s.withFault v).psg = s.psg := rfl
@[simp] theorem State.withFault_cfg (s : State) (v : Option FaultRecord) : (s.withFault v).cfg = s.cfg := rfl

/-! ## withBudget -/

@[simp] theorem State.withBudget_a (s : State) (v : Rat) : (s.withBudget v).a = s.a := rfl
@[simp] theorem State.withBudget_b (s : State) (v : Rat) : (s.withBudget v).b = s.b := rfl
@[simp] theorem State.withBudget_x (s : State) (v : Rat) : (s.withBudget v).x = s.x := rfl
@[simp] theorem State.withBudget_y (s : State) (v : Rat) : (s.withBudget v).y = s.y := rfl
@[simp] theorem State.withBudget_u (s : State) (v : Rat) : (s.withBudget v).u = s.u := rfl
@[simp] theorem State.withBudget_sp (s : State) (v : Rat) : (s.withBudget v).sp = s.sp := rfl
@[simp] theorem State.withBudget_pc (s : State) (v : Rat) : (s.withBudget v).pc = s.pc := rfl
@[simp] theorem State.withBudget_dp (s : State) (v : Rat) : (s.withBudget v).dp = s.dp := rfl
@[simp] theorem State.withBudget_cc (s : State) (v : Rat) : (s.withBudget v).cc = s.cc := rfl
@[simp] theorem State.withBudget_cyc (s : State) (v : Rat) : (s.withBudget v).cyc = s.cyc := rfl
@[simp] theorem State.withBudget_pc0 (s : State) (v : Rat) : (s.withBudget v).pc0 = s.pc0 := rfl
@[simp] theorem State.withBudget_wait (s : State) (v : Rat) : (s.withBudget v).wait = s.wait := rfl
@[simp] theorem State.withBudget_fault (s : State) (v : Rat) : (s.withBudget v).fault = s.fault := rfl
@[simp] theorem State.withBudget_budget (s : State) (v : Rat) : (s.withBudget v).budget = v := rfl
@[simp] theorem State.withBudget_buttons (s : State) (v : Rat) : (s.withBudget v).buttons = s.buttons := rfl
@[simp] theorem State.withBudget_mem (s : State) (v : Rat) : (s.withBudget v).mem = s.mem := rfl
@[simp] theorem State.withBudget_via (s : State) (v : Rat) : (s.withBudget v).via = s.via := rfl
@[simp] theorem State.withBudget_psg (s : State) (v : Rat) : (s.withBudget v).psg = s.psg := rfl
@[simp] theorem State.withBudget_cfg (s : State) (v : Rat) : (s.withBudget v).cfg = s.cfg := rfl

/-! ## withButtons -/

@[simp] theorem State.withButtons_a (s : State) (v : BitVec 4) : (s.withButtons v).a = s.a := rfl
@[simp] theorem State.withButtons_b (s : State) (v : BitVec 4) : (s.withButtons v).b = s.b := rfl
@[simp] theorem State.withButtons_x (s : State) (v : BitVec 4) : (s.withButtons v).x = s.x := rfl
@[simp] theorem State.withButtons_y (s : State) (v : BitVec 4) : (s.withButtons v).y = s.y := rfl
@[simp] theorem State.withButtons_u (s : State) (v : BitVec 4) : (s.withButtons v).u = s.u := rfl
@[simp] theorem State.withButtons_sp (s : State) (v : BitVec 4) : (s.withButtons v).sp = s.sp := rfl
@[simp] theorem State.withButtons_pc (s : State) (v : BitVec 4) : (s.withButtons v).pc = s.pc := rfl
@[simp] theorem State.withButtons_dp (s : State) (v : BitVec 4) : (s.withButtons v).dp = s.dp := rfl
@[simp] theorem State.withButtons_cc (s : State) (v : BitVec 4) : (s.withButtons v).cc = s.cc := rfl
@[simp] theorem State.withButtons_cyc (s : State) (v : BitVec 4) : (s.withButtons v).cyc = s.cyc := rfl
@[simp] theorem State.withButtons_pc0 (s : State) (v : BitVec 4) : (s.withButtons v).pc0 = s.pc0 := rfl
@[simp] theorem State.withButtons_wait (s : State) (v : BitVec 4) : (s.withButtons v).wait = s.wait := rfl
@[simp] theorem State.withButtons_fault (s : State) (v : BitVec 4) : (s.withButtons v).fault = s.fault := rfl
@[simp] theorem State.withButtons_budget (s : State) (v : BitVec 4) : (s.withButtons v).budget = s.budget := rfl
@[simp] theorem State.withButtons_buttons (s : State) (v : BitVec 4) : (s.withButtons v).buttons = v := rfl
@[simp] theorem State.withButtons_mem (s : State) (v : BitVec 4) : (s.withButtons v).mem = s.mem := rfl
@[simp] theorem State.withButtons_via (s : State) (v : BitVec 4) : (s.withButtons v).via = s.via := rfl
@[simp] theorem State.withButtons_psg (s : State) (v : BitVec 4) : (s.withButtons v).psg = s.psg := rfl
@[simp] theorem State.withButtons_cfg (s : State) (v : BitVec 4) : (s.withButtons v).cfg = s.cfg := rfl

/-! ## withMem -/

@[simp] theorem State.withMem_a (s : State) (v : Memory) : (s.withMem v).a = s.a := rfl
@[simp] theorem State.withMem_b (s : State) (v : Memory) : (s.withMem v).b = s.b := rfl
@[simp] theorem State.withMem_x (s : State) (v : Memory) : (s.withMem v).x = s.x := rfl
@[simp] theorem State.withMem_y (s : State) (v : Memory) : (s.withMem v).y = s.y := rfl
@[simp] theorem State.withMem_u (s : State) (v : Memory) : (s.withMem v).u = s.u := rfl
@[simp] theorem State.withMem_sp (s : State) (v : Memory) : (s.withMem v).sp = s.sp := rfl
@[simp] theorem State.withMem_pc (s : State) (v : Memory) : (s.withMem v).pc = s.pc := rfl
@[simp] theorem State.withMem_dp (s : State) (v : Memory) : (s.withMem v).dp = s.dp := rfl
@[simp] theorem State.withMem_cc (s : State) (v : Memory) : (s.withMem v).cc = s.cc := rfl
@[simp] theorem State.withMem_cyc (s : State) (v : Memory) : (s.withMem v).cyc = s.cyc := rfl
@[simp] theorem State.withMem_pc0 (s : State) (v : Memory) : (s.withMem v).pc0 = s.pc0 := rfl
@[simp] theorem State.withMem_wait (s : State) (v : Memory) : (s.withMem v).wait = s.wait := rfl
@[simp] theorem State.withMem_fault (s : State) (v : Memory) : (s.withMem v).fault = s.fault := rfl
@[simp] theorem State.withMem_budget (s : State) (v : Memory) : (s.withMem v).budget = s.budget := rfl
@[simp] theorem State.withMem_buttons (s : State) (v : Memory) : (s.withMem v).buttons = s.buttons := rfl
@[simp] theorem State.withMem_mem (s : State) (v : Memory) : (s.withMem v).mem = v := rfl
@[simp] theorem State.withMem_via (s : State) (v : Memory) : (s.withMem v).via = s.via := rfl
@[simp] theorem State.withMem_psg (s : State) (v : Memory) : (s.withMem v).psg = s.psg := rfl
@[simp] theorem State.withMem_cfg (s : State) (v : Memory) : (s.withMem v).cfg = s.cfg := rfl

/-! ## withVia -/

@[simp] theorem State.withVia_a (s : State) (v : Via) : (s.withVia v).a = s.a := rfl
@[simp] theorem State.withVia_b (s : State) (v : Via) : (s.withVia v).b = s.b := rfl
@[simp] theorem State.withVia_x (s : State) (v : Via) : (s.withVia v).x = s.x := rfl
@[simp] theorem State.withVia_y (s : State) (v : Via) : (s.withVia v).y = s.y := rfl
@[simp] theorem State.withVia_u (s : State) (v : Via) : (s.withVia v).u = s.u := rfl
@[simp] theorem State.withVia_sp (s : State) (v : Via) : (s.withVia v).sp = s.sp := rfl
@[simp] theorem State.withVia_pc (s : State) (v : Via) : (s.withVia v).pc = s.pc := rfl
@[simp] theorem State.withVia_dp (s : State) (v : Via) : (s.withVia v).dp = s.dp := rfl
@[simp] theorem State.withVia_cc (s : State) (v : Via) : (s.withVia v).cc = s.cc := rfl
@[simp] theorem State.withVia_cyc (s : State) (v : Via) : (s.withVia v).cyc = s.cyc := rfl
@[simp] theorem State.withVia_pc0 (s : State) (v : Via) : (s.withVia v).pc0 = s.pc0 := rfl
@[simp] theorem State.withVia_wait (s : State) (v : Via) : (s.withVia v).wait = s.wait := rfl
@[simp] theorem State.withVia_fault (s : State) (v : Via) : (s.withVia v).fault = s.fault := rfl
@[simp] theorem State.withVia_budget (s : State) (v : Via) : (s.withVia v).budget = s.budget := rfl
@[simp] theorem State.withVia_buttons (s : State) (v : Via) : (s.withVia v).buttons = s.buttons := rfl
@[simp] theorem State.withVia_mem (s : State) (v : Via) : (s.withVia v).mem = s.mem := rfl
@[simp] theorem State.withVia_via (s : State) (v : Via) : (s.withVia v).via = v := rfl
@[simp] theorem State.withVia_psg (s : State) (v : Via) : (s.withVia v).psg = s.psg := rfl
@[simp] theorem State.withVia_cfg (s : State) (v : Via) : (s.withVia v).cfg = s.cfg := rfl

/-! ## withPsg -/

@[simp] theorem State.withPsg_a (s : State) (v : Psg) : (s.withPsg v).a = s.a := rfl
@[simp] theorem State.withPsg_b (s : State) (v : Psg) : (s.withPsg v).b = s.b := rfl
@[simp] theorem State.withPsg_x (s : State) (v : Psg) : (s.withPsg v).x = s.x := rfl
@[simp] theorem State.withPsg_y (s : State) (v : Psg) : (s.withPsg v).y = s.y := rfl
@[simp] theorem State.withPsg_u (s : State) (v : Psg) : (s.withPsg v).u = s.u := rfl
@[simp] theorem State.withPsg_sp (s : State) (v : Psg) : (s.withPsg v).sp = s.sp := rfl
@[simp] theorem State.withPsg_pc (s : State) (v : Psg) : (s.withPsg v).pc = s.pc := rfl
@[simp] theorem State.withPsg_dp (s : State) (v : Psg) : (s.withPsg v).dp = s.dp := rfl
@[simp] theorem State.withPsg_cc (s : State) (v : Psg) : (s.withPsg v).cc = s.cc := rfl
@[simp] theorem State.withPsg_cyc (s : State) (v : Psg) : (s.withPsg v).cyc = s.cyc := rfl
@[simp] theorem State.withPsg_pc0 (s : State) (v : Psg) : (s.withPsg v).pc0 = s.pc0 := rfl
@[simp] theorem State.withPsg_wait (s : State) (v : Psg) : (s.withPsg v).wait = s.wait := rfl
@[simp] theorem State.withPsg_fault (s : State) (v : Psg) : (s.withPsg v).fault = s.fault := rfl
@[simp] theorem State.withPsg_budget (s : State) (v : Psg) : (s.withPsg v).budget = s.budget := rfl
@[simp] theorem State.withPsg_buttons (s : State) (v : Psg) : (s.withPsg v).buttons = s.buttons := rfl
@[simp] theorem State.withPsg_mem (s : State) (v : Psg) : (s.withPsg v).mem = s.mem := rfl
@[simp] theorem State.withPsg_via (s : State) (v : Psg) : (s.withPsg v).via = s.via := rfl
@[simp] theorem State.withPsg_psg (s : State) (v : Psg) : (s.withPsg v).psg = v := rfl
@[simp] theorem State.withPsg_cfg (s : State) (v : Psg) : (s.withPsg v).cfg = s.cfg := rfl

/-! ## Writing an 8-bit register -/

@[simp] theorem State.set8_a_a (s : State) (v : Byte) : (s.set8 .a v).a = v := rfl
@[simp] theorem State.set8_a_b (s : State) (v : Byte) : (s.set8 .a v).b = s.b := rfl
@[simp] theorem State.set8_a_x (s : State) (v : Byte) : (s.set8 .a v).x = s.x := rfl
@[simp] theorem State.set8_a_y (s : State) (v : Byte) : (s.set8 .a v).y = s.y := rfl
@[simp] theorem State.set8_a_u (s : State) (v : Byte) : (s.set8 .a v).u = s.u := rfl
@[simp] theorem State.set8_a_sp (s : State) (v : Byte) : (s.set8 .a v).sp = s.sp := rfl
@[simp] theorem State.set8_a_pc (s : State) (v : Byte) : (s.set8 .a v).pc = s.pc := rfl
@[simp] theorem State.set8_a_dp (s : State) (v : Byte) : (s.set8 .a v).dp = s.dp := rfl
@[simp] theorem State.set8_a_cc (s : State) (v : Byte) : (s.set8 .a v).cc = s.cc := rfl
@[simp] theorem State.set8_a_cyc (s : State) (v : Byte) : (s.set8 .a v).cyc = s.cyc := rfl
@[simp] theorem State.set8_a_pc0 (s : State) (v : Byte) : (s.set8 .a v).pc0 = s.pc0 := rfl
@[simp] theorem State.set8_a_wait (s : State) (v : Byte) : (s.set8 .a v).wait = s.wait := rfl
@[simp] theorem State.set8_a_fault (s : State) (v : Byte) : (s.set8 .a v).fault = s.fault := rfl
@[simp] theorem State.set8_a_budget (s : State) (v : Byte) : (s.set8 .a v).budget = s.budget := rfl
@[simp] theorem State.set8_a_buttons (s : State) (v : Byte) : (s.set8 .a v).buttons = s.buttons := rfl
@[simp] theorem State.set8_a_mem (s : State) (v : Byte) : (s.set8 .a v).mem = s.mem := rfl
@[simp] theorem State.set8_a_via (s : State) (v : Byte) : (s.set8 .a v).via = s.via := rfl
@[simp] theorem State.set8_a_psg (s : State) (v : Byte) : (s.set8 .a v).psg = s.psg := rfl
@[simp] theorem State.set8_a_cfg (s : State) (v : Byte) : (s.set8 .a v).cfg = s.cfg := rfl

@[simp] theorem State.set8_b_a (s : State) (v : Byte) : (s.set8 .b v).a = s.a := rfl
@[simp] theorem State.set8_b_b (s : State) (v : Byte) : (s.set8 .b v).b = v := rfl
@[simp] theorem State.set8_b_x (s : State) (v : Byte) : (s.set8 .b v).x = s.x := rfl
@[simp] theorem State.set8_b_y (s : State) (v : Byte) : (s.set8 .b v).y = s.y := rfl
@[simp] theorem State.set8_b_u (s : State) (v : Byte) : (s.set8 .b v).u = s.u := rfl
@[simp] theorem State.set8_b_sp (s : State) (v : Byte) : (s.set8 .b v).sp = s.sp := rfl
@[simp] theorem State.set8_b_pc (s : State) (v : Byte) : (s.set8 .b v).pc = s.pc := rfl
@[simp] theorem State.set8_b_dp (s : State) (v : Byte) : (s.set8 .b v).dp = s.dp := rfl
@[simp] theorem State.set8_b_cc (s : State) (v : Byte) : (s.set8 .b v).cc = s.cc := rfl
@[simp] theorem State.set8_b_cyc (s : State) (v : Byte) : (s.set8 .b v).cyc = s.cyc := rfl
@[simp] theorem State.set8_b_pc0 (s : State) (v : Byte) : (s.set8 .b v).pc0 = s.pc0 := rfl
@[simp] theorem State.set8_b_wait (s : State) (v : Byte) : (s.set8 .b v).wait = s.wait := rfl
@[simp] theorem State.set8_b_fault (s : State) (v : Byte) : (s.set8 .b v).fault = s.fault := rfl
@[simp] theorem State.set8_b_budget (s : State) (v : Byte) : (s.set8 .b v).budget = s.budget := rfl
@[simp] theorem State.set8_b_buttons (s : State) (v : Byte) : (s.set8 .b v).buttons = s.buttons := rfl
@[simp] theorem State.set8_b_mem (s : State) (v : Byte) : (s.set8 .b v).mem = s.mem := rfl
@[simp] theorem State.set8_b_via (s : State) (v : Byte) : (s.set8 .b v).via = s.via := rfl
@[simp] theorem State.set8_b_psg (s : State) (v : Byte) : (s.set8 .b v).psg = s.psg := rfl
@[simp] theorem State.set8_b_cfg (s : State) (v : Byte) : (s.set8 .b v).cfg = s.cfg := rfl

@[simp] theorem State.set8_cc_a (s : State) (v : Byte) : (s.set8 .cc v).a = s.a := rfl
@[simp] theorem State.set8_cc_b (s : State) (v : Byte) : (s.set8 .cc v).b = s.b := rfl
@[simp] theorem State.set8_cc_x (s : State) (v : Byte) : (s.set8 .cc v).x = s.x := rfl
@[simp] theorem State.set8_cc_y (s : State) (v : Byte) : (s.set8 .cc v).y = s.y := rfl
@[simp] theorem State.set8_cc_u (s : State) (v : Byte) : (s.set8 .cc v).u = s.u := rfl
@[simp] theorem State.set8_cc_sp (s : State) (v : Byte) : (s.set8 .cc v).sp = s.sp := rfl
@[simp] theorem State.set8_cc_pc (s : State) (v : Byte) : (s.set8 .cc v).pc = s.pc := rfl
@[simp] theorem State.set8_cc_dp (s : State) (v : Byte) : (s.set8 .cc v).dp = s.dp := rfl
@[simp] theorem State.set8_cc_cc (s : State) (v : Byte) : (s.set8 .cc v).cc = v := rfl
@[simp] theorem State.set8_cc_cyc (s : State) (v : Byte) : (s.set8 .cc v).cyc = s.cyc := rfl
@[simp] theorem State.set8_cc_pc0 (s : State) (v : Byte) : (s.set8 .cc v).pc0 = s.pc0 := rfl
@[simp] theorem State.set8_cc_wait (s : State) (v : Byte) : (s.set8 .cc v).wait = s.wait := rfl
@[simp] theorem State.set8_cc_fault (s : State) (v : Byte) : (s.set8 .cc v).fault = s.fault := rfl
@[simp] theorem State.set8_cc_budget (s : State) (v : Byte) : (s.set8 .cc v).budget = s.budget := rfl
@[simp] theorem State.set8_cc_buttons (s : State) (v : Byte) : (s.set8 .cc v).buttons = s.buttons := rfl
@[simp] theorem State.set8_cc_mem (s : State) (v : Byte) : (s.set8 .cc v).mem = s.mem := rfl
@[simp] theorem State.set8_cc_via (s : State) (v : Byte) : (s.set8 .cc v).via = s.via := rfl
@[simp] theorem State.set8_cc_psg (s : State) (v : Byte) : (s.set8 .cc v).psg = s.psg := rfl
@[simp] theorem State.set8_cc_cfg (s : State) (v : Byte) : (s.set8 .cc v).cfg = s.cfg := rfl

@[simp] theorem State.set8_dp_a (s : State) (v : Byte) : (s.set8 .dp v).a = s.a := rfl
@[simp] theorem State.set8_dp_b (s : State) (v : Byte) : (s.set8 .dp v).b = s.b := rfl
@[simp] theorem State.set8_dp_x (s : State) (v : Byte) : (s.set8 .dp v).x = s.x := rfl
@[simp] theorem State.set8_dp_y (s : State) (v : Byte) : (s.set8 .dp v).y = s.y := rfl
@[simp] theorem State.set8_dp_u (s : State) (v : Byte) : (s.set8 .dp v).u = s.u := rfl
@[simp] theorem State.set8_dp_sp (s : State) (v : Byte) : (s.set8 .dp v).sp = s.sp := rfl
@[simp] theorem State.set8_dp_pc (s : State) (v : Byte) : (s.set8 .dp v).pc = s.pc := rfl
@[simp] theorem State.set8_dp_dp (s : State) (v : Byte) : (s.set8 .dp v).dp = v := rfl
@[simp] theorem State.set8_dp_cc (s : State) (v : Byte) : (s.set8 .dp v).cc = s.cc := rfl
@[simp] theorem State.set8_dp_cyc (s : State) (v : Byte) : (s.set8 .dp v).cyc = s.cyc := rfl
@[simp] theorem State.set8_dp_pc0 (s : State) (v : Byte) : (s.set8 .dp v).pc0 = s.pc0 := rfl
@[simp] theorem State.set8_dp_wait (s : State) (v : Byte) : (s.set8 .dp v).wait = s.wait := rfl
@[simp] theorem State.set8_dp_fault (s : State) (v : Byte) : (s.set8 .dp v).fault = s.fault := rfl
@[simp] theorem State.set8_dp_budget (s : State) (v : Byte) : (s.set8 .dp v).budget = s.budget := rfl
@[simp] theorem State.set8_dp_buttons (s : State) (v : Byte) : (s.set8 .dp v).buttons = s.buttons := rfl
@[simp] theorem State.set8_dp_mem (s : State) (v : Byte) : (s.set8 .dp v).mem = s.mem := rfl
@[simp] theorem State.set8_dp_via (s : State) (v : Byte) : (s.set8 .dp v).via = s.via := rfl
@[simp] theorem State.set8_dp_psg (s : State) (v : Byte) : (s.set8 .dp v).psg = s.psg := rfl
@[simp] theorem State.set8_dp_cfg (s : State) (v : Byte) : (s.set8 .dp v).cfg = s.cfg := rfl

/-! ## Writing a 16-bit register -/

@[simp] theorem State.set16_d_a (s : State) (v : Word) : (s.set16 .d v).a = hiByte v := rfl
@[simp] theorem State.set16_d_b (s : State) (v : Word) : (s.set16 .d v).b = loByte v := rfl
@[simp] theorem State.set16_d_x (s : State) (v : Word) : (s.set16 .d v).x = s.x := rfl
@[simp] theorem State.set16_d_y (s : State) (v : Word) : (s.set16 .d v).y = s.y := rfl
@[simp] theorem State.set16_d_u (s : State) (v : Word) : (s.set16 .d v).u = s.u := rfl
@[simp] theorem State.set16_d_sp (s : State) (v : Word) : (s.set16 .d v).sp = s.sp := rfl
@[simp] theorem State.set16_d_pc (s : State) (v : Word) : (s.set16 .d v).pc = s.pc := rfl
@[simp] theorem State.set16_d_dp (s : State) (v : Word) : (s.set16 .d v).dp = s.dp := rfl
@[simp] theorem State.set16_d_cc (s : State) (v : Word) : (s.set16 .d v).cc = s.cc := rfl
@[simp] theorem State.set16_d_cyc (s : State) (v : Word) : (s.set16 .d v).cyc = s.cyc := rfl
@[simp] theorem State.set16_d_pc0 (s : State) (v : Word) : (s.set16 .d v).pc0 = s.pc0 := rfl
@[simp] theorem State.set16_d_wait (s : State) (v : Word) : (s.set16 .d v).wait = s.wait := rfl
@[simp] theorem State.set16_d_fault (s : State) (v : Word) : (s.set16 .d v).fault = s.fault := rfl
@[simp] theorem State.set16_d_budget (s : State) (v : Word) : (s.set16 .d v).budget = s.budget := rfl
@[simp] theorem State.set16_d_buttons (s : State) (v : Word) : (s.set16 .d v).buttons = s.buttons := rfl
@[simp] theorem State.set16_d_mem (s : State) (v : Word) : (s.set16 .d v).mem = s.mem := rfl
@[simp] theorem State.set16_d_via (s : State) (v : Word) : (s.set16 .d v).via = s.via := rfl
@[simp] theorem State.set16_d_psg (s : State) (v : Word) : (s.set16 .d v).psg = s.psg := rfl
@[simp] theorem State.set16_d_cfg (s : State) (v : Word) : (s.set16 .d v).cfg = s.cfg := rfl

@[simp] theorem State.set16_x_a (s : State) (v : Word) : (s.set16 .x v).a = s.a := rfl
@[simp] theorem State.set16_x_b (s : State) (v : Word) : (s.set16 .x v).b = s.b := rfl
@[simp] theorem State.set16_x_x (s : State) (v : Word) : (s.set16 .x v).x = v := rfl
@[simp] theorem State.set16_x_y (s : State) (v : Word) : (s.set16 .x v).y = s.y := rfl
@[simp] theorem State.set16_x_u (s : State) (v : Word) : (s.set16 .x v).u = s.u := rfl
@[simp] theorem State.set16_x_sp (s : State) (v : Word) : (s.set16 .x v).sp = s.sp := rfl
@[simp] theorem State.set16_x_pc (s : State) (v : Word) : (s.set16 .x v).pc = s.pc := rfl
@[simp] theorem State.set16_x_dp (s : State) (v : Word) : (s.set16 .x v).dp = s.dp := rfl
@[simp] theorem State.set16_x_cc (s : State) (v : Word) : (s.set16 .x v).cc = s.cc := rfl
@[simp] theorem State.set16_x_cyc (s : State) (v : Word) : (s.set16 .x v).cyc = s.cyc := rfl
@[simp] theorem State.set16_x_pc0 (s : State) (v : Word) : (s.set16 .x v).pc0 = s.pc0 := rfl
@[simp] theorem State.set16_x_wait (s : State) (v : Word) : (s.set16 .x v).wait = s.wait := rfl
@[simp] theorem State.set16_x_fault (s : State) (v : Word) : (s.set16 .x v).fault = s.fault := rfl
@[simp] theorem State.set16_x_budget (s : State) (v : Word) : (s.set16 .x v).budget = s.budget := rfl
@[simp] theorem State.set16_x_buttons (s : State) (v : Word) : (s.set16 .x v).buttons = s.buttons := rfl
@[simp] theorem State.set16_x_mem (s : State) (v : Word) : (s.set16 .x v).mem = s.mem := rfl
@[simp] theorem State.set16_x_via (s : State) (v : Word) : (s.set16 .x v).via = s.via := rfl
@[simp] theorem State.set16_x_psg (s : State) (v : Word) : (s.set16 .x v).psg = s.psg := rfl
@[simp] theorem State.set16_x_cfg (s : State) (v : Word) : (s.set16 .x v).cfg = s.cfg := rfl

@[simp] theorem State.set16_y_a (s : State) (v : Word) : (s.set16 .y v).a = s.a := rfl
@[simp] theorem State.set16_y_b (s : State) (v : Word) : (s.set16 .y v).b = s.b := rfl
@[simp] theorem State.set16_y_x (s : State) (v : Word) : (s.set16 .y v).x = s.x := rfl
@[simp] theorem State.set16_y_y (s : State) (v : Word) : (s.set16 .y v).y = v := rfl
@[simp] theorem State.set16_y_u (s : State) (v : Word) : (s.set16 .y v).u = s.u := rfl
@[simp] theorem State.set16_y_sp (s : State) (v : Word) : (s.set16 .y v).sp = s.sp := rfl
@[simp] theorem State.set16_y_pc (s : State) (v : Word) : (s.set16 .y v).pc = s.pc := rfl
@[simp] theorem State.set16_y_dp (s : State) (v : Word) : (s.set16 .y v).dp = s.dp := rfl
@[simp] theorem State.set16_y_cc (s : State) (v : Word) : (s.set16 .y v).cc = s.cc := rfl
@[simp] theorem State.set16_y_cyc (s : State) (v : Word) : (s.set16 .y v).cyc = s.cyc := rfl
@[simp] theorem State.set16_y_pc0 (s : State) (v : Word) : (s.set16 .y v).pc0 = s.pc0 := rfl
@[simp] theorem State.set16_y_wait (s : State) (v : Word) : (s.set16 .y v).wait = s.wait := rfl
@[simp] theorem State.set16_y_fault (s : State) (v : Word) : (s.set16 .y v).fault = s.fault := rfl
@[simp] theorem State.set16_y_budget (s : State) (v : Word) : (s.set16 .y v).budget = s.budget := rfl
@[simp] theorem State.set16_y_buttons (s : State) (v : Word) : (s.set16 .y v).buttons = s.buttons := rfl
@[simp] theorem State.set16_y_mem (s : State) (v : Word) : (s.set16 .y v).mem = s.mem := rfl
@[simp] theorem State.set16_y_via (s : State) (v : Word) : (s.set16 .y v).via = s.via := rfl
@[simp] theorem State.set16_y_psg (s : State) (v : Word) : (s.set16 .y v).psg = s.psg := rfl
@[simp] theorem State.set16_y_cfg (s : State) (v : Word) : (s.set16 .y v).cfg = s.cfg := rfl

@[simp] theorem State.set16_u_a (s : State) (v : Word) : (s.set16 .u v).a = s.a := rfl
@[simp] theorem State.set16_u_b (s : State) (v : Word) : (s.set16 .u v).b = s.b := rfl
@[simp] theorem State.set16_u_x (s : State) (v : Word) : (s.set16 .u v).x = s.x := rfl
@[simp] theorem State.set16_u_y (s : State) (v : Word) : (s.set16 .u v).y = s.y := rfl
@[simp] theorem State.set16_u_u (s : State) (v : Word) : (s.set16 .u v).u = v := rfl
@[simp] theorem State.set16_u_sp (s : State) (v : Word) : (s.set16 .u v).sp = s.sp := rfl
@[simp] theorem State.set16_u_pc (s : State) (v : Word) : (s.set16 .u v).pc = s.pc := rfl
@[simp] theorem State.set16_u_dp (s : State) (v : Word) : (s.set16 .u v).dp = s.dp := rfl
@[simp] theorem State.set16_u_cc (s : State) (v : Word) : (s.set16 .u v).cc = s.cc := rfl
@[simp] theorem State.set16_u_cyc (s : State) (v : Word) : (s.set16 .u v).cyc = s.cyc := rfl
@[simp] theorem State.set16_u_pc0 (s : State) (v : Word) : (s.set16 .u v).pc0 = s.pc0 := rfl
@[simp] theorem State.set16_u_wait (s : State) (v : Word) : (s.set16 .u v).wait = s.wait := rfl
@[simp] theorem State.set16_u_fault (s : State) (v : Word) : (s.set16 .u v).fault = s.fault := rfl
@[simp] theorem State.set16_u_budget (s : State) (v : Word) : (s.set16 .u v).budget = s.budget := rfl
@[simp] theorem State.set16_u_buttons (s : State) (v : Word) : (s.set16 .u v).buttons = s.buttons := rfl
@[simp] theorem State.set16_u_mem (s : State) (v : Word) : (s.set16 .u v).mem = s.mem := rfl
@[simp] theorem State.set16_u_via (s : State) (v : Word) : (s.set16 .u v).via = s.via := rfl
@[simp] theorem State.set16_u_psg (s : State) (v : Word) : (s.set16 .u v).psg = s.psg := rfl
@[simp] theorem State.set16_u_cfg (s : State) (v : Word) : (s.set16 .u v).cfg = s.cfg := rfl

@[simp] theorem State.set16_s_a (s : State) (v : Word) : (s.set16 .s v).a = s.a := rfl
@[simp] theorem State.set16_s_b (s : State) (v : Word) : (s.set16 .s v).b = s.b := rfl
@[simp] theorem State.set16_s_x (s : State) (v : Word) : (s.set16 .s v).x = s.x := rfl
@[simp] theorem State.set16_s_y (s : State) (v : Word) : (s.set16 .s v).y = s.y := rfl
@[simp] theorem State.set16_s_u (s : State) (v : Word) : (s.set16 .s v).u = s.u := rfl
@[simp] theorem State.set16_s_sp (s : State) (v : Word) : (s.set16 .s v).sp = v := rfl
@[simp] theorem State.set16_s_pc (s : State) (v : Word) : (s.set16 .s v).pc = s.pc := rfl
@[simp] theorem State.set16_s_dp (s : State) (v : Word) : (s.set16 .s v).dp = s.dp := rfl
@[simp] theorem State.set16_s_cc (s : State) (v : Word) : (s.set16 .s v).cc = s.cc := rfl
@[simp] theorem State.set16_s_cyc (s : State) (v : Word) : (s.set16 .s v).cyc = s.cyc := rfl
@[simp] theorem State.set16_s_pc0 (s : State) (v : Word) : (s.set16 .s v).pc0 = s.pc0 := rfl
@[simp] theorem State.set16_s_wait (s : State) (v : Word) : (s.set16 .s v).wait = s.wait := rfl
@[simp] theorem State.set16_s_fault (s : State) (v : Word) : (s.set16 .s v).fault = s.fault := rfl
@[simp] theorem State.set16_s_budget (s : State) (v : Word) : (s.set16 .s v).budget = s.budget := rfl
@[simp] theorem State.set16_s_buttons (s : State) (v : Word) : (s.set16 .s v).buttons = s.buttons := rfl
@[simp] theorem State.set16_s_mem (s : State) (v : Word) : (s.set16 .s v).mem = s.mem := rfl
@[simp] theorem State.set16_s_via (s : State) (v : Word) : (s.set16 .s v).via = s.via := rfl
@[simp] theorem State.set16_s_psg (s : State) (v : Word) : (s.set16 .s v).psg = s.psg := rfl
@[simp] theorem State.set16_s_cfg (s : State) (v : Word) : (s.set16 .s v).cfg = s.cfg := rfl

@[simp] theorem State.set16_pc_a (s : State) (v : Word) : (s.set16 .pc v).a = s.a := rfl
@[simp] theorem State.set16_pc_b (s : State) (v : Word) : (s.set16 .pc v).b = s.b := rfl
@[simp] theorem State.set16_pc_x (s : State) (v : Word) : (s.set16 .pc v).x = s.x := rfl
@[simp] theorem State.set16_pc_y (s : State) (v : Word) : (s.set16 .pc v).y = s.y := rfl
@[simp] theorem State.set16_pc_u (s : State) (v : Word) : (s.set16 .pc v).u = s.u := rfl
@[simp] theorem State.set16_pc_sp (s : State) (v : Word) : (s.set16 .pc v).sp = s.sp := rfl
@[simp] theorem State.set16_pc_pc (s : State) (v : Word) : (s.set16 .pc v).pc = v := rfl
@[simp] theorem State.set16_pc_dp (s : State) (v : Word) : (s.set16 .pc v).dp = s.dp := rfl
@[simp] theorem State.set16_pc_cc (s : State) (v : Word) : (s.set16 .pc v).cc = s.cc := rfl
@[simp] theorem State.set16_pc_cyc (s : State) (v : Word) : (s.set16 .pc v).cyc = s.cyc := rfl
@[simp] theorem State.set16_pc_pc0 (s : State) (v : Word) : (s.set16 .pc v).pc0 = s.pc0 := rfl
@[simp] theorem State.set16_pc_wait (s : State) (v : Word) : (s.set16 .pc v).wait = s.wait := rfl
@[simp] theorem State.set16_pc_fault (s : State) (v : Word) : (s.set16 .pc v).fault = s.fault := rfl
@[simp] theorem State.set16_pc_budget (s : State) (v : Word) : (s.set16 .pc v).budget = s.budget := rfl
@[simp] theorem State.set16_pc_buttons (s : State) (v : Word) : (s.set16 .pc v).buttons = s.buttons := rfl
@[simp] theorem State.set16_pc_mem (s : State) (v : Word) : (s.set16 .pc v).mem = s.mem := rfl
@[simp] theorem State.set16_pc_via (s : State) (v : Word) : (s.set16 .pc v).via = s.via := rfl
@[simp] theorem State.set16_pc_psg (s : State) (v : Word) : (s.set16 .pc v).psg = s.psg := rfl
@[simp] theorem State.set16_pc_cfg (s : State) (v : Word) : (s.set16 .pc v).cfg = s.cfg := rfl

/-! ## Writing any register keeps everything else -/

@[simp] theorem State.set8_x (s : State) (r : Reg8) (v : Byte) : (s.set8 r v).x = s.x := by
  cases r <;> rfl
@[simp] theorem State.set8_y (s : State) (r : Reg8) (v : Byte) : (s.set8 r v).y = s.y := by
  cases r <;> rfl
@[simp] theorem State.set8_u (s : State) (r : Reg8) (v : Byte) : (s.set8 r v).u = s.u := by
  cases r <;> rfl
@[simp] theorem State.set8_sp (s : State) (r : Reg8) (v : Byte) : (s.set8 r v).sp = s.sp := by
  cases r <;> rfl
@[simp] theorem State.set8_pc (s : State) (r : Reg8) (v : Byte) : (s.set8 r v).pc = s.pc := by
  cases r <;> rfl
@[simp] theorem State.set8_cyc (s : State) (r : Reg8) (v : Byte) : (s.set8 r v).cyc = s.cyc := by
  cases r <;> rfl
@[simp] theorem State.set8_pc0 (s : State) (r : Reg8) (v : Byte) : (s.set8 r v).pc0 = s.pc0 := by
  cases r <;> rfl
@[simp] theorem State.set8_wait (s : State) (r : Reg8) (v : Byte) : (s.set8 r v).wait = s.wait := by
  cases r <;> rfl
@[simp] theorem State.set8_fault (s : State) (r : Reg8) (v : Byte) : (s.set8 r v).fault = s.fault := by
  cases r <;> rfl
@[simp] theorem State.set8_budget (s : State) (r : Reg8) (v : Byte) : (s.set8 r v).budget = s.budget := by
  cases r <;> rfl
@[simp] theorem State.set8_buttons (s : State) (r : Reg8) (v : Byte) : (s.set8 r v).buttons = s.buttons := by
  cases r <;> rfl
@[simp] theorem State.set8_mem (s : State) (r : Reg8) (v : Byte) : (s.set8 r v).mem = s.mem := by
  cases r <;> rfl
@[simp] theorem State.set8_via (s : State) (r : Reg8) (v : Byte) : (s.set8 r v).via = s.via := by
  cases r <;> rfl
@[simp] theorem State.set8_psg (s : State) (r : Reg8) (v : Byte) : (s.set8 r v).psg = s.psg := by
  cases r <;> rfl
@[simp] theorem State.set8_cfg (s : State) (r : Reg8) (v : Byte) : (s.set8 r v).cfg = s.cfg := by
  cases r <;> rfl
@[simp] theorem State.set16_dp (s : State) (r : Reg16) (v : Word) : (s.set16 r v).dp = s.dp := by
  cases r <;> rfl
@[simp] theorem State.set16_cc (s : State) (r : Reg16) (v : Word) : (s.set16 r v).cc = s.cc := by
  cases r <;> rfl
@[simp] theorem State.set16_cyc (s : State) (r : Reg16) (v : Word) : (s.set16 r v).cyc = s.cyc := by
  cases r <;> rfl
@[simp] theorem State.set16_pc0 (s : State) (r : Reg16) (v : Word) : (s.set16 r v).pc0 = s.pc0 := by
  cases r <;> rfl
@[simp] theorem State.set16_wait (s : State) (r : Reg16) (v : Word) : (s.set16 r v).wait = s.wait := by
  cases r <;> rfl
@[simp] theorem State.set16_fault (s : State) (r : Reg16) (v : Word) : (s.set16 r v).fault = s.fault := by
  cases r <;> rfl
@[simp] theorem State.set16_budget (s : State) (r : Reg16) (v : Word) : (s.set16 r v).budget = s.budget := by
  cases r <;> rfl
@[simp] theorem State.set16_buttons (s : State) (r : Reg16) (v : Word) : (s.set16 r v).buttons = s.buttons := by
  cases r <;> rfl
@[simp] theorem State.set16_mem (s : State) (r : Reg16) (v : Word) : (s.set16 r v).mem = s.mem := by
  cases r <;> rfl
@[simp] theorem State.set16_via (s : State) (r : Reg16) (v : Word) : (s.set16 r v).via = s.via := by
  cases r <;> rfl
@[simp] theorem State.set16_psg (s : State) (r : Reg16) (v : Word) : (s.set16 r v).psg = s.psg := by
  cases r <;> rfl
@[simp] theorem State.set16_cfg (s : State) (r : Reg16) (v : Word) : (s.set16 r v).cfg = s.cfg := by
  cases r <;> rfl

/-! ## Reading a register by name -/

@[simp] theorem State.get8_a (s : State) : s.get8 .a = s.a := rfl
@[simp] theorem State.get8_b (s : State) : s.get8 .b = s.b := rfl
@[simp] theorem State.get8_cc (s : State) : s.get8 .cc = s.cc := rfl
@[simp] theorem State.get8_dp (s : State) : s.get8 .dp = s.dp := rfl
@[simp] theorem State.get16_d (s : State) : s.get16 .d = s.d := rfl
@[simp] theorem State.get16_x (s : State) : s.get16 .x = s.x := rfl
@[simp] theorem State.get16_y (s : State) : s.get16 .y = s.y := rfl
@[simp] theorem State.get16_u (s : State) : s.get16 .u = s.u := rfl
@[simp] theorem State.get16_s (s : State) : s.get16 .s = s.sp := rfl
@[simp] theorem State.get16_pc (s : State) : s.get16 .pc = s.pc := rfl

/-- A register reads as it was written. -/
@[simp] theorem State.get8_set8 (s : State) (r : Reg8) (v : Byte) : (s.set8 r v).get8 r = v := by
  cases r <;> rfl

/-- Only the register written changes. -/
theorem State.get8_set8_ne (s : State) {r q : Reg8} (v : Byte) (h : q ≠ r) :
    (s.set8 r v).get8 q = s.get8 q := by
  cases r <;> cases q <;> first | rfl | exact absurd rfl h

/-- The high byte of a pair of bytes. -/
@[simp] theorem hiByte_joinBytes (h l : Byte) : hiByte (joinBytes h l) = h := by
  apply BitVec.eq_of_getLsbD_eq
  intro i hi
  simp only [hiByte, joinBytes, BitVec.getLsbD_extractLsb', BitVec.getLsbD_append]
  simp [hi]

/-- The low byte of a pair of bytes. -/
@[simp] theorem loByte_joinBytes (h l : Byte) : loByte (joinBytes h l) = l := by
  apply BitVec.eq_of_getLsbD_eq
  intro i hi
  simp only [loByte, joinBytes, BitVec.getLsbD_extractLsb', BitVec.getLsbD_append]
  simp [hi]

/-- A word is its high byte and its low byte. -/
@[simp] theorem joinBytes_hi_lo (w : Word) : joinBytes (hiByte w) (loByte w) = w := by
  apply BitVec.eq_of_getLsbD_eq
  intro i hi
  simp only [hiByte, loByte, joinBytes, BitVec.getLsbD_extractLsb', BitVec.getLsbD_append]
  split
  · simp_all
  · have h8 : i - 8 < 8 := by omega
    simp only [h8, decide_true, Bool.true_and]
    congr 1
    omega

/-- A 16-bit register reads as it was written, D as the pair A:B. -/
@[simp] theorem State.get16_set16 (s : State) (r : Reg16) (v : Word) : (s.set16 r v).get16 r = v := by
  cases r <;> simp [State.get16, State.set16, State.d]

end Sys2Proof.Machine
end

