-- ==== Sys2Proof/Laws/Run.lean ====
section
/-!
SUPPORT. How computations of the machine run: one equation for each way to build one, and the two ways a
meaning ends.
-/
namespace Sys2Proof.Machine

@[simp] theorem M.pure_apply {α : Type} (a : α) (s : State) : (pure a : M α) s = .ok a s := rfl

@[simp] theorem M.get_apply (s : State) : (get : M State) s = .ok s s := rfl

@[simp] theorem M.modify_apply (f : State → State) (s : State) : (modify f : M PUnit) s = .ok ⟨⟩ (f s) := rfl

@[simp] theorem M.raise_apply {α : Type} (k : FaultKind) (s : State) : (raise k : M α) s = .error k s := rfl

/-- A computation followed by another. -/
theorem M.bind_apply {α β : Type} (m : M α) (f : α → M β) (s : State) :
    (m >>= f) s = match m s with
      | .ok a t => f a t
      | .error k t => .error k t := by
  change EStateM.bind m f s = _
  unfold EStateM.bind
  cases m s <;> rfl

/-- A computation followed by another, where the first one's answer is known. -/
theorem M.bind_ok {α β : Type} {m : M α} {f : α → M β} {s t : State} {a : α} (h : m s = .ok a t) :
    (m >>= f) s = f a t := by
  rw [M.bind_apply, h]

/-- A fault of the first computation is the fault of both. -/
theorem M.bind_error {α β : Type} {m : M α} {f : α → M β} {s t : State} {k : FaultKind}
    (h : m s = .error k t) : (m >>= f) s = .error k t := by
  rw [M.bind_apply, h]

/-- Two computations answer only where both do. -/
theorem M.bind_eq_ok {α β : Type} {m : M α} {f : α → M β} {s u : State} {b : β}
    (h : (m >>= f) s = .ok b u) : ∃ a t, m s = .ok a t ∧ f a t = .ok b u := by
  rw [M.bind_apply] at h
  cases hm : m s with
  | ok a t => rw [hm] at h; exact ⟨a, t, rfl, h⟩
  | error k t => rw [hm] at h; cases h

/-- Two computations fault where one of them does. -/
theorem M.bind_eq_error {α β : Type} {m : M α} {f : α → M β} {s u : State} {k : FaultKind}
    (h : (m >>= f) s = .error k u) :
    m s = .error k u ∨ ∃ a t, m s = .ok a t ∧ f a t = .error k u := by
  rw [M.bind_apply] at h
  cases hm : m s with
  | ok a t => rw [hm] at h; exact .inr ⟨a, t, rfl, h⟩
  | error j t => rw [hm] at h; cases h; exact .inl rfl

@[simp] theorem addCyc_apply (n : Nat) (s : State) : addCyc n s = .ok ⟨⟩ (s.withCyc (s.cyc + n)) := rfl

/-- A meaning whose body answers. -/
theorem finish_ok {m : M Unit} {s t : State} (h : m s = .ok ⟨⟩ t) : finish m s = .next t := by
  unfold finish; rw [h]

/-- A meaning whose body faults. -/
theorem finish_error {m : M Unit} {s t : State} {k : FaultKind} (h : m s = .error k t) :
    finish m s = stop k t := by
  unfold finish; rw [h]

/-- A meaning answers a next state only where its body answers. -/
theorem finish_eq_next {m : M Unit} {s t : State} (h : finish m s = .next t) : m s = .ok ⟨⟩ t := by
  unfold finish at h
  cases hm : m s with
  | ok a u => rw [hm] at h; cases h; rfl
  | error k u => rw [hm] at h; cases h

/-- A meaning faults only where its body does, and the record names the step's instruction (R480). -/
theorem finish_eq_fault {m : M Unit} {s t : State} {rec : FaultRecord}
    (h : finish m s = .fault (.fatal rec t)) :
    ∃ k u, m s = .error k u ∧ rec = ⟨k, u.pc0⟩ ∧ t = u.withFault (some rec) := by
  unfold finish at h
  cases hm : m s with
  | ok a u => rw [hm] at h; cases h
  | error k u =>
    rw [hm] at h
    simp only [stop] at h
    cases h
    exact ⟨k, u, rfl, rfl, rfl⟩

/-- A base-set meaning is its body from the base cycle count. -/
theorem perform_ok {i : Instr} {m : M Unit} {s t : State} (h : m (s.withCyc (baseCycles s.cfg i)) = .ok ⟨⟩ t) :
    perform i m s = .next t := finish_ok h

/-- Where the configuration executes the tier, an extension-set meaning is its body. -/
theorem gated_allowed {tier : Tier} {i : Instr} {m : M Unit} {s : State}
    (h : tierAllowed s.cfg tier = true) : gated tier i m s = m s := by
  unfold gated; rw [if_pos h]

/-- Where the configuration does not execute the tier, an extension-set meaning faults (R370). -/
theorem gated_refused {tier : Tier} {i : Instr} {m : M Unit} {s : State}
    (h : tierAllowed s.cfg tier = false) :
    gated tier i m s = .error (.unimplementedOpcode (opcodeOf i).1 (opcodeOf i).2) s := by
  unfold gated; rw [if_neg (by simp [h])]

/-- An extension-set meaning where the configuration executes it. -/
theorem performGated_ok {tier : Tier} {i : Instr} {m : M Unit} {s t : State}
    (hc : tierAllowed s.cfg tier = true) (h : m (s.withCyc (baseCycles s.cfg i)) = .ok ⟨⟩ t) :
    performGated tier i m s = .next t := by
  apply finish_ok
  rw [gated_allowed (by exact hc)]
  exact h

end Sys2Proof.Machine
end

