-- ==== Sys2Proof/Laws/Ops.lean ====
section
/-!
SUPPORT. What each shared operation can do, said once: the bus, the stack, the operands and the shapes of
instructions.
-/
namespace Sys2Proof.Machine

/-! ## The bus -/

/-- A read outside the VIA's page answers the byte there and changes nothing. -/
theorem read8_of_peek {s : State} {a : Word} {v : Byte} (h : s.peek a = some v) : read8 a s = .ok v s := by
  unfold read8; rw [h]

/-- A read in the VIA's page is a VIA read. -/
theorem read8_of_via {s : State} {a : Word} (h : s.peek a = none) : read8 a s = viaRead a s := by
  unfold read8; rw [h]

/-- An address holds no byte of memory exactly in the VIA's page. -/
theorem peek_eq_none (s : State) (a : Word) : s.peek a = none ↔ region s.cfg.bus a = .via := by
  unfold State.peek
  cases region s.cfg.bus a <;> simp

/-- A VIA read answers with the VIA changed at most, or faults and changes nothing. -/
theorem viaRead_frame (a : Word) (s : State) :
    (∃ x v, viaRead a s = .ok x (s.withVia v)) ∨ ∃ k, viaRead a s = .error k s := by
  unfold viaRead portARead
  cases viaReg a <;> simp only
  case portA =>
    left
    split
    · exact ⟨_, s.via, rfl⟩
    · exact ⟨_, _, rfl⟩
  case unlisted => exact .inr ⟨_, rfl⟩
  case portB => exact .inl ⟨_, _, rfl⟩
  case t1CounterLow => exact .inl ⟨_, _, rfl⟩
  case t2Low => exact .inl ⟨_, _, rfl⟩
  all_goals exact .inl ⟨_, s.via, rfl⟩

/-- A bus read changes the VIA at most. -/
theorem read8_frame {a : Word} {s t : State} {v : Byte} (h : read8 a s = .ok v t) : ∃ w, t = s.withVia w := by
  cases hp : s.peek a with
  | some b => rw [read8_of_peek hp] at h; cases h; exact ⟨s.via, rfl⟩
  | none =>
    rw [read8_of_via hp] at h
    obtain ⟨x, w, e⟩ | ⟨k, e⟩ := viaRead_frame a s <;> rw [e] at h <;> cases h
    exact ⟨w, rfl⟩

/-- A bus read that faults changes nothing. -/
theorem read8_error {a : Word} {s t : State} {k : FaultKind} (h : read8 a s = .error k t) : t = s := by
  cases hp : s.peek a with
  | some b => rw [read8_of_peek hp] at h; cases h
  | none =>
    rw [read8_of_via hp] at h
    obtain ⟨x, w, e⟩ | ⟨k, e⟩ := viaRead_frame a s <;> rw [e] at h <;> cases h
    rfl

/-- A VIA write answers with the VIA and the PSG changed at most, or faults and changes nothing. -/
theorem viaWrite_frame (a : Word) (x : Byte) (s : State) :
    (∃ v p, viaWrite a x s = .ok ⟨⟩ ((s.withVia v).withPsg p)) ∨ ∃ k, viaWrite a x s = .error k s := by
  have same : ∀ v, ∃ w p, (.ok ⟨⟩ (s.withVia v) : EStateM.Result FaultKind State Unit)
      = .ok ⟨⟩ ((s.withVia w).withPsg p) := fun v => ⟨v, s.psg, rfl⟩
  unfold viaWrite
  cases viaReg a <;> simp only
  case auxControl =>
    by_cases h : acrSupported x = true
    · rw [if_pos h]; exact .inl (same _)
    · rw [if_neg h]; exact .inr ⟨_, rfl⟩
  case peripheralControl =>
    by_cases h : pcrSupported x = true
    · rw [if_pos h]; exact .inl (same _)
    · rw [if_neg h]; exact .inr ⟨_, rfl⟩
  case interruptFlag =>
    unfold ifrWrite
    cases s.cfg.viaFlagWrites <;> simp only
    · exact .inl (same s.via)
    · by_cases h : ifrAfter s.via.ifr x = s.via.ifr
      · rw [if_pos h]; exact .inl (same s.via)
      · rw [if_neg h]; exact .inr ⟨_, rfl⟩
    · exact .inl (same _)
  case interruptEnable =>
    unfold ierWrite
    cases s.cfg.viaFlagWrites <;> simp only
    · exact .inl (same s.via)
    · by_cases h : ierAfter s.via.ier x = s.via.ier
      · rw [if_pos h]; exact .inl (same s.via)
      · rw [if_neg h]; exact .inr ⟨_, rfl⟩
    · exact .inl (same _)
  case portB => exact .inl ⟨_, _, rfl⟩
  case unlisted => exact .inr ⟨_, rfl⟩
  all_goals exact .inl (same _)

/-- A bus write changes memory, or the VIA and the PSG. -/
theorem write8_frame {a : Word} {x : Byte} {s t : State} (h : write8 a x s = .ok ⟨⟩ t) :
    (∃ m, t = s.withMem m) ∨ region s.cfg.bus a = .via ∧ ∃ v p, t = (s.withVia v).withPsg p := by
  unfold write8 at h
  cases hr : region s.cfg.bus a <;> rw [hr] at h <;> simp only at h
  case via =>
    obtain ⟨v, p, e⟩ | ⟨k, e⟩ := viaWrite_frame a x s <;> rw [e] at h <;> cases h
    exact .inr ⟨rfl, v, p, rfl⟩
  case ram => cases h; exact .inl ⟨_, rfl⟩
  case flat => cases h; exact .inl ⟨_, rfl⟩
  all_goals cases h; exact .inl ⟨s.mem, rfl⟩

/-- A bus write that faults changes nothing. -/
theorem write8_error {a : Word} {x : Byte} {s t : State} {k : FaultKind}
    (h : write8 a x s = .error k t) : t = s := by
  unfold write8 at h
  cases hr : region s.cfg.bus a <;> rw [hr] at h <;> simp only at h
  case via =>
    obtain ⟨v, p, e⟩ | ⟨k, e⟩ := viaWrite_frame a x s <;> rw [e] at h <;> cases h
    rfl
  all_goals cases h

/-- A bus write neither reads nor changes CC. -/
theorem write8_withCC {a : Word} {x : Byte} {s t : State} (c : Byte) (h : write8 a x s = .ok ⟨⟩ t) :
    write8 a x (s.withCC c) = .ok ⟨⟩ (t.withCC c) := by
  unfold write8 at h ⊢
  simp only [State.withCC_cfg]
  cases hr : region s.cfg.bus a <;> rw [hr] at h <;> simp only at h ⊢
  case via =>
    unfold viaWrite at h ⊢
    cases hv : viaReg a <;> rw [hv] at h <;> simp only at h ⊢
    case auxControl =>
      by_cases hc : acrSupported x = true
      · rw [if_pos hc] at h ⊢; cases h; rfl
      · rw [if_neg hc] at h; cases h
    case peripheralControl =>
      by_cases hc : pcrSupported x = true
      · rw [if_pos hc] at h ⊢; cases h; rfl
      · rw [if_neg hc] at h; cases h
    case interruptFlag =>
      unfold ifrWrite at h ⊢
      simp only [State.withCC_cfg, State.withCC_via]
      cases hw : s.cfg.viaFlagWrites <;> rw [hw] at h <;> simp only at h ⊢
      · cases h; rfl
      · by_cases hc : ifrAfter s.via.ifr x = s.via.ifr
        · rw [if_pos hc] at h; cases h; exact if_pos hc
        · rw [if_neg hc] at h; cases h
      · cases h; rfl
    case interruptEnable =>
      unfold ierWrite at h ⊢
      simp only [State.withCC_cfg, State.withCC_via]
      cases hw : s.cfg.viaFlagWrites <;> rw [hw] at h <;> simp only at h ⊢
      · cases h; rfl
      · by_cases hc : ierAfter s.via.ier x = s.via.ier
        · rw [if_pos hc] at h; cases h; exact if_pos hc
        · rw [if_neg hc] at h; cases h
      · cases h; rfl
    case unlisted => cases h
    all_goals cases h; rfl
  all_goals cases h; rfl

/-- A write outside the VIA's page stores the byte where it is storable and is discarded elsewhere. -/
theorem write8_avoids {a : Word} {x : Byte} {s : State} (h : region s.cfg.bus a ≠ .via) :
    write8 a x s = .ok ⟨⟩ (s.withMem
      (if storable s.cfg.bus a then s.mem.put (cellKey s.cfg.bus a) x else s.mem)) := by
  unfold write8 storable
  cases hr : region s.cfg.bus a <;> first | rfl | exact absurd hr h

/-- Two addresses that store their byte at different keys do not see each other's writes. -/
theorem peek_put_other (s : State) (a b : Word) (v : Byte)
    (h : cellKey s.cfg.bus b ≠ cellKey s.cfg.bus a) :
    (s.withMem (s.mem.put (cellKey s.cfg.bus a) v)).peek b = s.peek b := by
  unfold State.peek
  simp only [State.withMem_cfg, State.withMem_mem]
  rw [Memory.get_put_other _ _ _ _ h]

/-- A storable byte reads as it was written. -/
theorem peek_put_same (s : State) (a : Word) (v : Byte) (hm : s.mem.wf = true)
    (h : storable s.cfg.bus a = true) :
    (s.withMem (s.mem.put (cellKey s.cfg.bus a) v)).peek a = some v := by
  unfold State.peek storable at *
  simp only [State.withMem_cfg, State.withMem_mem]
  cases hr : region s.cfg.bus a <;> simp only [hr] at h ⊢ <;>
    first | (rw [Memory.get_put_same _ hm]) | cases h

/-- The read of one byte depends on memory and configuration alone. -/
theorem peek_congr {s t : State} (hm : t.mem = s.mem) (hc : t.cfg = s.cfg) (a : Word) :
    t.peek a = s.peek a := by
  unfold State.peek; rw [hm, hc]

/-- A 16-bit read of two bytes outside the VIA's page. -/
theorem read16_of_peek {s : State} {a : Word} {h l : Byte} (hh : s.peek a = some h)
    (hl : s.peek (a + 1) = some l) : read16 a s = .ok (joinBytes h l) s := by
  unfold read16
  rw [M.bind_ok (read8_of_peek hh), M.bind_ok (read8_of_peek hl)]
  rfl

/-- A 16-bit read changes the VIA at most. -/
theorem read16_frame {a : Word} {s t : State} {v : Word} (h : read16 a s = .ok v t) :
    ∃ w, t = s.withVia w := by
  unfold read16 at h
  obtain ⟨x, s1, h1, h⟩ := M.bind_eq_ok h
  obtain ⟨y, s2, h2, h⟩ := M.bind_eq_ok h
  obtain ⟨w1, rfl⟩ := read8_frame h1
  obtain ⟨w2, rfl⟩ := read8_frame h2
  cases h
  exact ⟨w2, rfl⟩

/-! ## Fetch -/

/-- A fetch of a byte outside the VIA's page. -/
theorem fetch8_of_peek {s : State} {v : Byte} (h : s.peek s.pc = some v) :
    fetch8 s = .ok v (s.withPC (s.pc + 1)) := by
  unfold fetch8
  rw [M.bind_ok (M.get_apply s), M.bind_ok (read8_of_peek h)]
  rfl

/-! ## Stack -/

/-- A push is a decrement and a store at the new stack pointer. -/
theorem push8_eq (p : Stk) (v : Byte) (s : State) :
    push8 p v s = write8 (s.get16 (stkReg p) - 1) v
      (s.set16 (stkReg p) (s.get16 (stkReg p) - 1)) := by
  unfold push8
  rw [M.bind_ok (M.modify_apply _ s), M.bind_ok (M.get_apply _), State.get16_set16]

/-- A pull of a byte outside the VIA's page. -/
theorem pull8_of_peek {p : Stk} {s : State} {v : Byte} (h : s.peek (s.get16 (stkReg p)) = some v) :
    pull8 p s = .ok v (s.set16 (stkReg p) (s.get16 (stkReg p) + 1)) := by
  unfold pull8
  rw [M.bind_ok (M.get_apply s), M.bind_ok (read8_of_peek h)]
  rfl

/-! ## Shapes of instructions -/

/-- An instruction with an 8-bit source, after its operand is read. -/
theorem alu8_ok {r : Reg8} {f : Byte → Byte → Byte → Byte × Byte} {m : Src8} {s t : State} {v : Byte}
    (h : readOperand8 m s = .ok v t) :
    alu8 r f m s = .ok ⟨⟩ ((t.set8 r (f (t.get8 r) v t.cc).1).withCC (f (t.get8 r) v t.cc).2) := by
  unfold alu8; rw [M.bind_ok h]; rfl

/-- A test with an 8-bit source, after its operand is read. -/
theorem test8_ok {r : Reg8} {f : Byte → Byte → Byte → Byte × Byte} {m : Src8} {s t : State} {v : Byte}
    (h : readOperand8 m s = .ok v t) :
    test8 r f m s = .ok ⟨⟩ (t.withCC (f (t.get8 r) v t.cc).2) := by
  unfold test8; rw [M.bind_ok h]; rfl

/-- An instruction with a 16-bit source, after its operand is read. -/
theorem alu16_ok {r : Reg16} {f : Word → Word → Byte → Word × Byte} {m : Src16} {s t : State} {v : Word}
    (h : readOperand16 m s = .ok v t) :
    alu16 r f m s = .ok ⟨⟩ ((t.set16 r (f (t.get16 r) v t.cc).1).withCC (f (t.get16 r) v t.cc).2) := by
  unfold alu16; rw [M.bind_ok h]; rfl

/-- A test with a 16-bit source, after its operand is read. -/
theorem test16_ok {r : Reg16} {f : Word → Word → Byte → Word × Byte} {m : Src16} {s t : State} {v : Word}
    (h : readOperand16 m s = .ok v t) :
    test16 r f m s = .ok ⟨⟩ (t.withCC (f (t.get16 r) v t.cc).2) := by
  unfold test16; rw [M.bind_ok h]; rfl

/-- A read-modify-write, after its address, its read and its write. -/
theorem modifyMem_ok {e : Ea} {f : Byte → Byte → Byte × Byte} {s t u w : State} {ea : Word} {v : Byte}
    (hea : effAddr e s = .ok ea t) (hr : read8 ea t = .ok v u)
    (hw : write8 ea (f v u.cc).1 (u.withCC (f v u.cc).2) = .ok ⟨⟩ w) :
    modifyMem e f s = .ok ⟨⟩ w := by
  unfold modifyMem
  rw [M.bind_ok hea, M.bind_ok hr, M.bind_ok (M.get_apply u), M.bind_ok (M.modify_apply _ u)]
  exact hw

/-- An 8-bit store, after its address and its write. -/
theorem store8_ok {r : Reg8} {e : Ea} {s t u : State} {ea : Word} (hea : effAddr e s = .ok ea t)
    (hw : write8 ea (t.get8 r) t = .ok ⟨⟩ u) :
    store8 r e s = .ok ⟨⟩ (u.withCC (putNZ0 (t.get8 r) u.cc)) := by
  unfold store8
  rw [M.bind_ok hea, M.bind_ok (M.get_apply t), M.bind_ok hw]
  rfl

/-- A 16-bit store, after its address and its write. -/
theorem store16_ok {r : Reg16} {e : Ea} {s t u : State} {ea : Word} (hea : effAddr e s = .ok ea t)
    (hw : write16 ea (t.get16 r) t = .ok ⟨⟩ u) :
    store16 r e s = .ok ⟨⟩ (u.withCC (putNZ0 (t.get16 r) u.cc)) := by
  unfold store16
  rw [M.bind_ok hea, M.bind_ok (M.get_apply t), M.bind_ok hw]
  rfl

/-- A branch adds its offset to the address after the instruction, or does nothing. -/
theorem branch_eq (p : Cond) (off : Word) (s : State) :
    branch p off s = .ok ⟨⟩
      (if p.holds s.cc then (s.withPC (s.pc + off)).withCyc (s.cyc + s.cfg.branchTakenExtra) else s) := by
  unfold branch
  rw [M.bind_ok (M.get_apply s)]
  cases p.holds s.cc <;> rfl

end Sys2Proof.Machine
end

