-- ==== Sys2Proof/Laws/Keeps.lean ====
section
/-!
SUPPORT. Properties of states that computations keep: shown once for the bus and the register updates, they
hold after every shared operation, whether it answers or faults.
-/
namespace Sys2Proof.Machine

/-- The property holds after the computation wherever it held before, whether it answers or faults. -/
def Keeps {α : Type} (P : State → Prop) (m : M α) : Prop :=
  ∀ s, P s → match m s with
    | .ok _ t => P t
    | .error _ t => P t

/-- The property survives the register updates, spent cycles and every bus access. -/
structure Stable (P : State → Prop) : Prop where
  set8 : ∀ s r v, P s → P (s.set8 r v)
  set16 : ∀ s r v, P s → P (s.set16 r v)
  cyc : ∀ s n, P s → P (s.withCyc (s.cyc + n))
  read : ∀ a, Keeps P (read8 a)
  write : ∀ a v, Keeps P (write8 a v)

theorem Stable.cc {P : State → Prop} (h : Stable P) (s : State) (v : Byte) (hs : P s) : P (s.withCC v) :=
  h.set8 s .cc v hs

theorem Stable.pc {P : State → Prop} (h : Stable P) (s : State) (v : Word) (hs : P s) : P (s.withPC v) :=
  h.set16 s .pc v hs

theorem Keeps.ok {α : Type} {P : State → Prop} {m : M α} (h : Keeps P m) {s t : State} {a : α} (hs : P s)
    (e : m s = .ok a t) : P t := by
  have := h s hs; rw [e] at this; exact this

theorem Keeps.error {α : Type} {P : State → Prop} {m : M α} (h : Keeps P m) {s t : State} {k : FaultKind}
    (hs : P s) (e : m s = .error k t) : P t := by
  have := h s hs; rw [e] at this; exact this

theorem keeps_pure {α : Type} {P : State → Prop} (a : α) : Keeps P (pure a : M α) := fun _ hs => hs

theorem keeps_get {P : State → Prop} : Keeps P (get : M State) := fun _ hs => hs

theorem keeps_raise {α : Type} {P : State → Prop} (k : FaultKind) : Keeps P (raise k : M α) := fun _ hs => hs

theorem keeps_modify {P : State → Prop} {f : State → State} (h : ∀ s, P s → P (f s)) :
    Keeps P (modify f : M PUnit) := fun s hs => h s hs

theorem keeps_bind {α β : Type} {P : State → Prop} {m : M α} {f : α → M β} (hm : Keeps P m)
    (hf : ∀ a, Keeps P (f a)) : Keeps P (m >>= f) := by
  intro s hs
  rw [M.bind_apply]
  cases e : m s with
  | ok a t => exact hf a t (hm.ok hs e)
  | error k t => exact hm.error hs e

theorem keeps_ite {α : Type} {P : State → Prop} {c : Prop} [Decidable c] {m n : M α} (hm : Keeps P m)
    (hn : Keeps P n) : Keeps P (if c then m else n) := by
  split <;> assumption

section Operations

variable {P : State → Prop} (h : Stable P)
include h

theorem keeps_read16 (a : Word) : Keeps P (read16 a) :=
  keeps_bind (h.read a) fun _ => keeps_bind (h.read _) fun _ => keeps_pure _

theorem keeps_write16 (a v : Word) : Keeps P (write16 a v) :=
  keeps_bind (h.write a _) fun _ => h.write _ _

theorem keeps_addCyc (n : Nat) : Keeps P (addCyc n) := keeps_modify fun s hs => h.cyc s _ hs

theorem keeps_fetch8 : Keeps P fetch8 :=
  keeps_bind keeps_get fun s => keeps_bind (h.read s.pc) fun _ =>
    keeps_bind (keeps_modify fun t ht => h.pc t _ ht) fun _ => keeps_pure _

theorem keeps_fetch16 : Keeps P fetch16 :=
  keeps_bind (keeps_fetch8 h) fun _ => keeps_bind (keeps_fetch8 h) fun _ => keeps_pure _

theorem keeps_push8 (p : Stk) (v : Byte) : Keeps P (push8 p v) :=
  keeps_bind (keeps_modify fun s hs => h.set16 s _ _ hs) fun _ =>
    keeps_bind keeps_get fun _ => h.write _ _

theorem keeps_push16 (p : Stk) (v : Word) : Keeps P (push16 p v) :=
  keeps_bind (keeps_push8 h p _) fun _ => keeps_push8 h p _

theorem keeps_pull8 (p : Stk) : Keeps P (pull8 p) :=
  keeps_bind keeps_get fun _ => keeps_bind (h.read _) fun _ =>
    keeps_bind (keeps_modify fun s hs => h.set16 s _ _ hs) fun _ => keeps_pure _

theorem keeps_pull16 (p : Stk) : Keeps P (pull16 p) :=
  keeps_bind (keeps_pull8 h p) fun _ => keeps_bind (keeps_pull8 h p) fun _ => keeps_pure _

theorem keeps_pushIf8 (p : Stk) (c : Bool) (r : Reg8) : Keeps P (pushIf8 p c r) :=
  keeps_ite (keeps_bind keeps_get fun _ => keeps_push8 h p _) (keeps_pure _)

theorem keeps_pushIf16 (p : Stk) (c : Bool) (r : Reg16) : Keeps P (pushIf16 p c r) :=
  keeps_ite (keeps_bind keeps_get fun _ => keeps_push16 h p _) (keeps_pure _)

theorem keeps_pullIf8 (p : Stk) (c : Bool) (r : Reg8) : Keeps P (pullIf8 p c r) :=
  keeps_ite (keeps_bind (keeps_pull8 h p) fun _ => keeps_modify fun s hs => h.set8 s _ _ hs) (keeps_pure _)

theorem keeps_pullIf16 (p : Stk) (c : Bool) (r : Reg16) : Keeps P (pullIf16 p c r) :=
  keeps_ite (keeps_bind (keeps_pull16 h p) fun _ => keeps_modify fun s hs => h.set16 s _ _ hs)
    (keeps_pure _)

theorem keeps_pushList (p : Stk) (m : Byte) : Keeps P (pushList p m) :=
  keeps_bind (keeps_pushIf16 h p _ _) fun _ => keeps_bind (keeps_pushIf16 h p _ _) fun _ =>
  keeps_bind (keeps_pushIf16 h p _ _) fun _ => keeps_bind (keeps_pushIf16 h p _ _) fun _ =>
  keeps_bind (keeps_pushIf8 h p _ _) fun _ => keeps_bind (keeps_pushIf8 h p _ _) fun _ =>
  keeps_bind (keeps_pushIf8 h p _ _) fun _ => keeps_pushIf8 h p _ _

theorem keeps_pullList (p : Stk) (m : Byte) : Keeps P (pullList p m) :=
  keeps_bind (keeps_pullIf8 h p _ _) fun _ => keeps_bind (keeps_pullIf8 h p _ _) fun _ =>
  keeps_bind (keeps_pullIf8 h p _ _) fun _ => keeps_bind (keeps_pullIf8 h p _ _) fun _ =>
  keeps_bind (keeps_pullIf16 h p _ _) fun _ => keeps_bind (keeps_pullIf16 h p _ _) fun _ =>
  keeps_bind (keeps_pullIf16 h p _ _) fun _ => keeps_pullIf16 h p _ _

theorem keeps_pushEntire : Keeps P pushEntire :=
  keeps_bind (keeps_modify fun s hs => h.cc s _ hs) fun _ => keeps_pushList h _ _

theorem keeps_enterHandler (m : Byte) (a : Word) : Keeps P (enterHandler m a) :=
  keeps_bind (keeps_modify fun s hs => h.cc s _ hs) fun _ =>
    keeps_bind (keeps_read16 h a) fun _ => keeps_modify fun s hs => h.pc s _ hs

theorem keeps_takeException (m : Byte) (a : Word) : Keeps P (takeException m a) :=
  keeps_bind (keeps_pushEntire h) fun _ => keeps_enterHandler h m a

theorem keeps_returnFromException : Keeps P returnFromException := by
  refine keeps_bind (keeps_pullIf8 h _ _ _) fun _ => keeps_bind keeps_get fun _ => keeps_ite ?_ ?_
  · exact keeps_bind (keeps_pullIf8 h _ _ _) fun _ => keeps_bind (keeps_pullIf8 h _ _ _) fun _ =>
      keeps_bind (keeps_pullIf8 h _ _ _) fun _ => keeps_bind (keeps_pullIf16 h _ _ _) fun _ =>
      keeps_bind (keeps_pullIf16 h _ _ _) fun _ => keeps_bind (keeps_pullIf16 h _ _ _) fun _ =>
      keeps_bind (keeps_addCyc h _) fun _ => keeps_pullIf16 h _ _ _
  · exact keeps_pullIf16 h _ _ _

theorem keeps_indexedAt (r : IdxReg) (n : Word) (c : Nat) : Keeps P (indexedAt r n c) :=
  keeps_bind keeps_get fun _ => keeps_bind (keeps_addCyc h c) fun _ => keeps_pure _

theorem keeps_postIncrement (r : IdxReg) (n : Word) (c : Nat) : Keeps P (postIncrement r n c) :=
  keeps_bind keeps_get fun _ => keeps_bind (keeps_modify fun s hs => h.set16 s _ _ hs) fun _ =>
    keeps_bind (keeps_addCyc h c) fun _ => keeps_pure _

theorem keeps_preDecrement (r : IdxReg) (n : Word) (c : Nat) : Keeps P (preDecrement r n c) :=
  keeps_bind (keeps_modify fun s hs => h.set16 s _ _ hs) fun _ =>
    keeps_bind (keeps_addCyc h c) fun _ => keeps_bind keeps_get fun _ => keeps_pure _

theorem keeps_pcRelative (n : Word) (c : Nat) : Keeps P (pcRelative n c) :=
  keeps_bind keeps_get fun _ => keeps_bind (keeps_addCyc h c) fun _ => keeps_pure _

theorem keeps_indirect (ind : Bool) (ea : Word) : Keeps P (indirect ind ea) :=
  keeps_ite (keeps_bind (keeps_read16 h ea) fun _ => keeps_bind (keeps_addCyc h 3) fun _ => keeps_pure _)
    (keeps_pure _)

theorem keeps_indexedEa (i : Idx) : Keeps P (indexedEa i) := by
  cases i
  case off5 => exact keeps_indexedAt h _ _ _
  case inc1 => exact keeps_postIncrement h _ _ _
  case inc2 => exact keeps_bind (keeps_postIncrement h _ _ _) fun _ => keeps_indirect h _ _
  case dec1 => exact keeps_preDecrement h _ _ _
  case dec2 => exact keeps_bind (keeps_preDecrement h _ _ _) fun _ => keeps_indirect h _ _
  case zero => exact keeps_bind (keeps_indexedAt h _ _ _) fun _ => keeps_indirect h _ _
  case accB =>
    exact keeps_bind keeps_get fun _ => keeps_bind (keeps_indexedAt h _ _ _) fun _ => keeps_indirect h _ _
  case accA =>
    exact keeps_bind keeps_get fun _ => keeps_bind (keeps_indexedAt h _ _ _) fun _ => keeps_indirect h _ _
  case off8 => exact keeps_bind (keeps_indexedAt h _ _ _) fun _ => keeps_indirect h _ _
  case off16 => exact keeps_bind (keeps_indexedAt h _ _ _) fun _ => keeps_indirect h _ _
  case accD =>
    exact keeps_bind keeps_get fun _ => keeps_bind (keeps_indexedAt h _ _ _) fun _ => keeps_indirect h _ _
  case pc8 => exact keeps_bind (keeps_pcRelative h _ _) fun _ => keeps_indirect h _ _
  case pc16 => exact keeps_bind (keeps_pcRelative h _ _) fun _ => keeps_indirect h _ _
  case extInd =>
    exact keeps_bind (keeps_read16 h _) fun _ => keeps_bind (keeps_addCyc h 5) fun _ => keeps_pure _

theorem keeps_effAddr (e : Ea) : Keeps P (effAddr e) := by
  cases e
  case dir => exact keeps_bind keeps_get fun _ => keeps_pure _
  case idx => exact keeps_indexedEa h _
  case ext => exact keeps_pure _

theorem keeps_readOperand8 (m : Src8) : Keeps P (readOperand8 m) := by
  cases m
  · exact keeps_pure _
  · exact keeps_bind (keeps_effAddr h _) fun _ => h.read _

theorem keeps_readOperand16 (m : Src16) : Keeps P (readOperand16 m) := by
  cases m
  · exact keeps_pure _
  · exact keeps_bind (keeps_effAddr h _) fun _ => keeps_read16 h _

theorem keeps_alu8 (r : Reg8) (f : Byte → Byte → Byte → Byte × Byte) (m : Src8) : Keeps P (alu8 r f m) :=
  keeps_bind (keeps_readOperand8 h m) fun _ => keeps_modify fun s hs => h.cc _ _ (h.set8 s _ _ hs)

theorem keeps_test8 (r : Reg8) (f : Byte → Byte → Byte → Byte × Byte) (m : Src8) : Keeps P (test8 r f m) :=
  keeps_bind (keeps_readOperand8 h m) fun _ => keeps_modify fun s hs => h.cc s _ hs

theorem keeps_alu16 (r : Reg16) (f : Word → Word → Byte → Word × Byte) (m : Src16) :
    Keeps P (alu16 r f m) :=
  keeps_bind (keeps_readOperand16 h m) fun _ => keeps_modify fun s hs => h.cc _ _ (h.set16 s _ _ hs)

theorem keeps_test16 (r : Reg16) (f : Word → Word → Byte → Word × Byte) (m : Src16) :
    Keeps P (test16 r f m) :=
  keeps_bind (keeps_readOperand16 h m) fun _ => keeps_modify fun s hs => h.cc s _ hs

theorem keeps_modifyReg (r : Reg8) (f : Byte → Byte → Byte × Byte) : Keeps P (modifyReg r f) :=
  keeps_modify fun s hs => h.cc _ _ (h.set8 s _ _ hs)

theorem keeps_modifyMem (e : Ea) (f : Byte → Byte → Byte × Byte) : Keeps P (modifyMem e f) :=
  keeps_bind (keeps_effAddr h e) fun _ => keeps_bind (h.read _) fun _ => keeps_bind keeps_get fun _ =>
    keeps_bind (keeps_modify fun s hs => h.cc s _ hs) fun _ => h.write _ _

theorem keeps_store8 (r : Reg8) (e : Ea) : Keeps P (store8 r e) :=
  keeps_bind (keeps_effAddr h e) fun _ => keeps_bind keeps_get fun _ => keeps_bind (h.write _ _) fun _ =>
    keeps_modify fun s hs => h.cc s _ hs

theorem keeps_store16 (r : Reg16) (e : Ea) : Keeps P (store16 r e) :=
  keeps_bind (keeps_effAddr h e) fun _ => keeps_bind keeps_get fun _ =>
    keeps_bind (keeps_write16 h _ _) fun _ => keeps_modify fun s hs => h.cc s _ hs

theorem keeps_loadEa (r : Reg16) (z : Bool) (i : Idx) : Keeps P (loadEa r z i) :=
  keeps_bind (keeps_indexedEa h i) fun _ => keeps_modify fun s hs => h.cc _ _ (h.set16 s _ _ hs)

theorem keeps_branch (p : Cond) (off : Word) : Keeps P (branch p off) :=
  keeps_bind keeps_get fun _ => keeps_ite
    (keeps_bind (keeps_modify fun s hs => h.pc s _ hs) fun _ => keeps_addCyc h _) (keeps_pure _)

theorem keeps_call (a : Word) : Keeps P (call a) :=
  keeps_bind keeps_get fun _ => keeps_bind (keeps_push16 h _ _) fun _ =>
    keeps_modify fun s hs => h.pc s _ hs

theorem keeps_pushRegs (p : Stk) (m : Byte) : Keeps P (pushRegs p m) :=
  keeps_bind (keeps_pushList h p m) fun _ => keeps_bind keeps_get fun _ => keeps_addCyc h _

theorem keeps_pullRegs (p : Stk) (m : Byte) : Keeps P (pullRegs p m) :=
  keeps_bind (keeps_pullList h p m) fun _ => keeps_bind keeps_get fun _ => keeps_addCyc h _

theorem keeps_fetchOpcode : Keeps P fetchOpcode := by
  refine keeps_bind (keeps_fetch8 h) fun v => ?_
  split
  · exact keeps_pure _
  · exact keeps_bind (keeps_fetch8 h) fun _ => keeps_pure _

theorem keeps_fetchIdx : Keeps P fetchIdx := by
  refine keeps_bind (keeps_fetch8 h) fun v => ?_
  split
  · exact keeps_pure _
  · exact keeps_bind (keeps_fetch8 h) fun _ => keeps_pure _
  · exact keeps_bind (keeps_fetch16 h) fun _ => keeps_pure _
  · exact keeps_raise _

theorem keeps_fetchPair : Keeps P fetchPair := by
  refine keeps_bind (keeps_fetch8 h) fun v => ?_
  split
  · exact keeps_pure _
  · exact keeps_raise _

theorem keeps_fetchOperand (f : OpForm) : Keeps P (fetchOperand f) := by
  cases f
  case inh => exact keeps_pure _
  case idx => exact keeps_bind (keeps_fetchIdx h) fun _ => keeps_pure _
  case regpair => exact keeps_bind (keeps_fetchPair h) fun _ => keeps_pure _
  case imm16 => exact keeps_bind (keeps_fetch16 h) fun _ => keeps_pure _
  case ext => exact keeps_bind (keeps_fetch16 h) fun _ => keeps_pure _
  case rel16 => exact keeps_bind (keeps_fetch16 h) fun _ => keeps_pure _
  all_goals exact keeps_bind (keeps_fetch8 h) fun _ => keeps_pure _

theorem keeps_fetchInstr : Keeps P fetchInstr := by
  refine keeps_bind (keeps_fetchOpcode h) fun po => keeps_bind ?_ fun _ => keeps_fetchOperand h _
  unfold rowFor
  split
  · exact keeps_raise _
  · exact keeps_bind keeps_get fun _ => keeps_ite (keeps_pure _) (keeps_raise _)

end Operations

/-- A property of the parts of State that no instruction changes, through the bus: it is stable if it
survives a change of memory, of the VIA and of the PSG. -/
theorem stable_of_updates {P : State → Prop} (h8 : ∀ s r v, P s → P (s.set8 r v))
    (h16 : ∀ s r v, P s → P (s.set16 r v)) (hc : ∀ s n, P s → P (s.withCyc (s.cyc + n)))
    (hm : ∀ s m, P s → P (s.withMem m)) (hv : ∀ s v, P s → P (s.withVia v))
    (hp : ∀ s p, P s → P (s.withPsg p)) : Stable P where
  set8 := h8
  set16 := h16
  cyc := hc
  read a := by
    intro s hs
    cases e : read8 a s with
    | ok v t => obtain ⟨w, rfl⟩ := read8_frame e; exact hv _ _ hs
    | error k t => rw [read8_error e]; exact hs
  write a x := by
    intro s hs
    cases e : write8 a x s with
    | ok v t =>
      obtain ⟨m, rfl⟩ | ⟨-, v, p, rfl⟩ := write8_frame e
      · exact hm _ _ hs
      · exact hp _ _ (hv _ _ hs)
    | error k t => rw [write8_error e]; exact hs

/-- Every instruction leaves the parts of State that only the host or the step loop changes (R6, R470). -/
theorem stable_constants (s0 : State) : Stable fun t =>
    t.pc0 = s0.pc0 ∧ t.fault = s0.fault ∧ t.budget = s0.budget ∧ t.buttons = s0.buttons ∧ t.cfg = s0.cfg :=
  stable_of_updates (fun s r v hs => by simpa using hs) (fun s r v hs => by simpa using hs)
    (fun s n hs => by simpa using hs) (fun s m hs => by simpa using hs) (fun s v hs => by simpa using hs)
    (fun s p hs => by simpa using hs)

end Sys2Proof.Machine
end

