-- ==== Sys2Proof/Laws/PerInstr.lean ====
section
/-!
SUPPORT. For every instruction: its opcode has a row in the maps of spec/30_encoding.md R110 to R112, it encodes
to 1 to 5 bytes (R100), and R118's count for it is at least 2 (spec/70_reset_and_hazards.md R511).
-/
namespace Sys2Proof.Laws.HasRow

open Sys2Proof Sys2Proof.Machine

/-- The opcode has a row, the encoding is 1 to 5 bytes long, R118's count is at least 2. -/
def Statement (i : Instr) : Prop :=
  (lookup (opcodeOf i).1 (opcodeOf i).2).isSome = true ∧ 1 ≤ (encode i).length ∧ (encode i).length ≤ 5 ∧
    2 ≤ defaultCycles i

/-- An indexed operand is 1 to 3 bytes long. -/
theorem idx_length (x : Idx) : x.bytes.length ≤ 3 := by
  cases x <;> exact Nat.le_of_ble_eq_true rfl

/-- An instruction without a page byte whose operand is indexed. -/
theorem of_idx {i : Instr} {p : Page} {op : Byte} {x : Idx} (ho : opcodeOf i = (p, op))
    (hl : (lookup p op).isSome = true) (he : (encode i).length = x.bytes.length + 1)
    (hc : 2 ≤ defaultCycles i) : Statement i :=
  ⟨by rw [ho]; exact hl, by rw [he]; omega, by rw [he]; have := idx_length x; omega, hc⟩

/-- An instruction with a page byte whose operand is indexed. -/
theorem of_idx_paged {i : Instr} {p : Page} {op : Byte} {x : Idx} (ho : opcodeOf i = (p, op))
    (hl : (lookup p op).isSome = true) (he : (encode i).length = x.bytes.length + 2)
    (hc : 2 ≤ defaultCycles i) : Statement i :=
  ⟨by rw [ho]; exact hl, by rw [he]; omega, by rw [he]; have := idx_length x; omega, hc⟩

/-- An instruction of a known length. -/
theorem of_length {i : Instr} {p : Page} {op : Byte} (n : Nat) (ho : opcodeOf i = (p, op))
    (hl : (lookup p op).isSome = true) (he : (encode i).length = n) (hn : Nat.ble 1 n = true) (hm : Nat.ble n 5 = true) (hc : 2 ≤ defaultCycles i) :
    Statement i :=
  ⟨by rw [ho]; exact hl, by rw [he]; exact Nat.le_of_ble_eq_true hn, by rw [he]; exact Nat.le_of_ble_eq_true hm, hc⟩

theorem lda (m : Src8) : Statement (.lda m) := by
  rcases m with v | (d | x | w)
  · exact of_length (p := .p0) (op := 0x86) 2 rfl (by decide) rfl rfl rfl (Nat.le_of_ble_eq_true rfl)
  · exact of_length (p := .p0) (op := 0x96) 2 rfl (by decide) rfl rfl rfl (Nat.le_of_ble_eq_true rfl)
  · exact of_idx (p := .p0) (op := 0xA6) (x := x) rfl (by decide) rfl (Nat.le_of_ble_eq_true rfl)
  · exact of_length (p := .p0) (op := 0xB6) 3 rfl (by decide) rfl rfl rfl (Nat.le_of_ble_eq_true rfl)
theorem ldb (m : Src8) : Statement (.ldb m) := by
  rcases m with v | (d | x | w)
  · exact of_length (p := .p0) (op := 0xC6) 2 rfl (by decide) rfl rfl rfl (Nat.le_of_ble_eq_true rfl)
  · exact of_length (p := .p0) (op := 0xD6) 2 rfl (by decide) rfl rfl rfl (Nat.le_of_ble_eq_true rfl)
  · exact of_idx (p := .p0) (op := 0xE6) (x := x) rfl (by decide) rfl (Nat.le_of_ble_eq_true rfl)
  · exact of_length (p := .p0) (op := 0xF6) 3 rfl (by decide) rfl rfl rfl (Nat.le_of_ble_eq_true rfl)
theorem ldd (m : Src16) : Statement (.ldd m) := by
  rcases m with v | (d | x | w)
  · exact of_length (p := .p0) (op := 0xCC) 3 rfl (by decide) rfl rfl rfl (Nat.le_of_ble_eq_true rfl)
  · exact of_length (p := .p0) (op := 0xDC) 2 rfl (by decide) rfl rfl rfl (Nat.le_of_ble_eq_true rfl)
  · exact of_idx (p := .p0) (op := 0xEC) (x := x) rfl (by decide) rfl (Nat.le_of_ble_eq_true rfl)
  · exact of_length (p := .p0) (op := 0xFC) 3 rfl (by decide) rfl rfl rfl (Nat.le_of_ble_eq_true rfl)
theorem ldx (m : Src16) : Statement (.ldx m) := by
  rcases m with v | (d | x | w)
  · exact of_length (p := .p0) (op := 0x8E) 3 rfl (by decide) rfl rfl rfl (Nat.le_of_ble_eq_true rfl)
  · exact of_length (p := .p0) (op := 0x9E) 2 rfl (by decide) rfl rfl rfl (Nat.le_of_ble_eq_true rfl)
  · exact of_idx (p := .p0) (op := 0xAE) (x := x) rfl (by decide) rfl (Nat.le_of_ble_eq_true rfl)
  · exact of_length (p := .p0) (op := 0xBE) 3 rfl (by decide) rfl rfl rfl (Nat.le_of_ble_eq_true rfl)
theorem ldy (m : Src16) : Statement (.ldy m) := by
  rcases m with v | (d | x | w)
  · exact of_length (p := .p1) (op := 0x8E) 4 rfl (by decide) rfl rfl rfl (Nat.le_of_ble_eq_true rfl)
  · exact of_length (p := .p1) (op := 0x9E) 3 rfl (by decide) rfl rfl rfl (Nat.le_of_ble_eq_true rfl)
  · exact of_idx_paged (p := .p1) (op := 0xAE) (x := x) rfl (by decide) rfl (Nat.le_of_ble_eq_true rfl)
  · exact of_length (p := .p1) (op := 0xBE) 4 rfl (by decide) rfl rfl rfl (Nat.le_of_ble_eq_true rfl)
theorem ldu (m : Src16) : Statement (.ldu m) := by
  rcases m with v | (d | x | w)
  · exact of_length (p := .p0) (op := 0xCE) 3 rfl (by decide) rfl rfl rfl (Nat.le_of_ble_eq_true rfl)
  · exact of_length (p := .p0) (op := 0xDE) 2 rfl (by decide) rfl rfl rfl (Nat.le_of_ble_eq_true rfl)
  · exact of_idx (p := .p0) (op := 0xEE) (x := x) rfl (by decide) rfl (Nat.le_of_ble_eq_true rfl)
  · exact of_length (p := .p0) (op := 0xFE) 3 rfl (by decide) rfl rfl rfl (Nat.le_of_ble_eq_true rfl)
theorem lds (m : Src16) : Statement (.lds m) := by
  rcases m with v | (d | x | w)
  · exact of_length (p := .p1) (op := 0xCE) 4 rfl (by decide) rfl rfl rfl (Nat.le_of_ble_eq_true rfl)
  · exact of_length (p := .p1) (op := 0xDE) 3 rfl (by decide) rfl rfl rfl (Nat.le_of_ble_eq_true rfl)
  · exact of_idx_paged (p := .p1) (op := 0xEE) (x := x) rfl (by decide) rfl (Nat.le_of_ble_eq_true rfl)
  · exact of_length (p := .p1) (op := 0xFE) 4 rfl (by decide) rfl rfl rfl (Nat.le_of_ble_eq_true rfl)
theorem sta (e : Ea) : Statement (.sta e) := by
  rcases e with d | x | w
  · exact of_length (p := .p0) (op := 0x97) 2 rfl (by decide) rfl rfl rfl (Nat.le_of_ble_eq_true rfl)
  · exact of_idx (p := .p0) (op := 0xA7) (x := x) rfl (by decide) rfl (Nat.le_of_ble_eq_true rfl)
  · exact of_length (p := .p0) (op := 0xB7) 3 rfl (by decide) rfl rfl rfl (Nat.le_of_ble_eq_true rfl)
theorem stb (e : Ea) : Statement (.stb e) := by
  rcases e with d | x | w
  · exact of_length (p := .p0) (op := 0xD7) 2 rfl (by decide) rfl rfl rfl (Nat.le_of_ble_eq_true rfl)
  · exact of_idx (p := .p0) (op := 0xE7) (x := x) rfl (by decide) rfl (Nat.le_of_ble_eq_true rfl)
  · exact of_length (p := .p0) (op := 0xF7) 3 rfl (by decide) rfl rfl rfl (Nat.le_of_ble_eq_true rfl)
theorem std (e : Ea) : Statement (.std e) := by
  rcases e with d | x | w
  · exact of_length (p := .p0) (op := 0xDD) 2 rfl (by decide) rfl rfl rfl (Nat.le_of_ble_eq_true rfl)
  · exact of_idx (p := .p0) (op := 0xED) (x := x) rfl (by decide) rfl (Nat.le_of_ble_eq_true rfl)
  · exact of_length (p := .p0) (op := 0xFD) 3 rfl (by decide) rfl rfl rfl (Nat.le_of_ble_eq_true rfl)
theorem stx (e : Ea) : Statement (.stx e) := by
  rcases e with d | x | w
  · exact of_length (p := .p0) (op := 0x9F) 2 rfl (by decide) rfl rfl rfl (Nat.le_of_ble_eq_true rfl)
  · exact of_idx (p := .p0) (op := 0xAF) (x := x) rfl (by decide) rfl (Nat.le_of_ble_eq_true rfl)
  · exact of_length (p := .p0) (op := 0xBF) 3 rfl (by decide) rfl rfl rfl (Nat.le_of_ble_eq_true rfl)
theorem sty (e : Ea) : Statement (.sty e) := by
  rcases e with d | x | w
  · exact of_length (p := .p1) (op := 0x9F) 3 rfl (by decide) rfl rfl rfl (Nat.le_of_ble_eq_true rfl)
  · exact of_idx_paged (p := .p1) (op := 0xAF) (x := x) rfl (by decide) rfl (Nat.le_of_ble_eq_true rfl)
  · exact of_length (p := .p1) (op := 0xBF) 4 rfl (by decide) rfl rfl rfl (Nat.le_of_ble_eq_true rfl)
theorem stu (e : Ea) : Statement (.stu e) := by
  rcases e with d | x | w
  · exact of_length (p := .p0) (op := 0xDF) 2 rfl (by decide) rfl rfl rfl (Nat.le_of_ble_eq_true rfl)
  · exact of_idx (p := .p0) (op := 0xEF) (x := x) rfl (by decide) rfl (Nat.le_of_ble_eq_true rfl)
  · exact of_length (p := .p0) (op := 0xFF) 3 rfl (by decide) rfl rfl rfl (Nat.le_of_ble_eq_true rfl)
theorem sts (e : Ea) : Statement (.sts e) := by
  rcases e with d | x | w
  · exact of_length (p := .p1) (op := 0xDF) 3 rfl (by decide) rfl rfl rfl (Nat.le_of_ble_eq_true rfl)
  · exact of_idx_paged (p := .p1) (op := 0xEF) (x := x) rfl (by decide) rfl (Nat.le_of_ble_eq_true rfl)
  · exact of_length (p := .p1) (op := 0xFF) 4 rfl (by decide) rfl rfl rfl (Nat.le_of_ble_eq_true rfl)
theorem leax (x : Idx) : Statement (.leax x) := of_idx (p := .p0) (op := 0x30) (x := x) rfl (by decide) rfl (Nat.le_of_ble_eq_true rfl)
theorem leay (x : Idx) : Statement (.leay x) := of_idx (p := .p0) (op := 0x31) (x := x) rfl (by decide) rfl (Nat.le_of_ble_eq_true rfl)
theorem leau (x : Idx) : Statement (.leau x) := of_idx (p := .p0) (op := 0x33) (x := x) rfl (by decide) rfl (Nat.le_of_ble_eq_true rfl)
theorem leas (x : Idx) : Statement (.leas x) := of_idx (p := .p0) (op := 0x32) (x := x) rfl (by decide) rfl (Nat.le_of_ble_eq_true rfl)
theorem clr (e : Ea) : Statement (.clr e) := by
  rcases e with d | x | w
  · exact of_length (p := .p0) (op := 0x0F) 2 rfl (by decide) rfl rfl rfl (Nat.le_of_ble_eq_true rfl)
  · exact of_idx (p := .p0) (op := 0x6F) (x := x) rfl (by decide) rfl (Nat.le_of_ble_eq_true rfl)
  · exact of_length (p := .p0) (op := 0x7F) 3 rfl (by decide) rfl rfl rfl (Nat.le_of_ble_eq_true rfl)
theorem clra : Statement .clra := of_length (p := .p0) (op := 0x4F) 1 rfl (by decide) rfl rfl rfl (Nat.le_of_ble_eq_true rfl)
theorem clrb : Statement .clrb := of_length (p := .p0) (op := 0x5F) 1 rfl (by decide) rfl rfl rfl (Nat.le_of_ble_eq_true rfl)
theorem adda (m : Src8) : Statement (.adda m) := by
  rcases m with v | (d | x | w)
  · exact of_length (p := .p0) (op := 0x8B) 2 rfl (by decide) rfl rfl rfl (Nat.le_of_ble_eq_true rfl)
  · exact of_length (p := .p0) (op := 0x9B) 2 rfl (by decide) rfl rfl rfl (Nat.le_of_ble_eq_true rfl)
  · exact of_idx (p := .p0) (op := 0xAB) (x := x) rfl (by decide) rfl (Nat.le_of_ble_eq_true rfl)
  · exact of_length (p := .p0) (op := 0xBB) 3 rfl (by decide) rfl rfl rfl (Nat.le_of_ble_eq_true rfl)
theorem addb (m : Src8) : Statement (.addb m) := by
  rcases m with v | (d | x | w)
  · exact of_length (p := .p0) (op := 0xCB) 2 rfl (by decide) rfl rfl rfl (Nat.le_of_ble_eq_true rfl)
  · exact of_length (p := .p0) (op := 0xDB) 2 rfl (by decide) rfl rfl rfl (Nat.le_of_ble_eq_true rfl)
  · exact of_idx (p := .p0) (op := 0xEB) (x := x) rfl (by decide) rfl (Nat.le_of_ble_eq_true rfl)
  · exact of_length (p := .p0) (op := 0xFB) 3 rfl (by decide) rfl rfl rfl (Nat.le_of_ble_eq_true rfl)
theorem addd (m : Src16) : Statement (.addd m) := by
  rcases m with v | (d | x | w)
  · exact of_length (p := .p0) (op := 0xC3) 3 rfl (by decide) rfl rfl rfl (Nat.le_of_ble_eq_true rfl)
  · exact of_length (p := .p0) (op := 0xD3) 2 rfl (by decide) rfl rfl rfl (Nat.le_of_ble_eq_true rfl)
  · exact of_idx (p := .p0) (op := 0xE3) (x := x) rfl (by decide) rfl (Nat.le_of_ble_eq_true rfl)
  · exact of_length (p := .p0) (op := 0xF3) 3 rfl (by decide) rfl rfl rfl (Nat.le_of_ble_eq_true rfl)
theorem adca (m : Src8) : Statement (.adca m) := by
  rcases m with v | (d | x | w)
  · exact of_length (p := .p0) (op := 0x89) 2 rfl (by decide) rfl rfl rfl (Nat.le_of_ble_eq_true rfl)
  · exact of_length (p := .p0) (op := 0x99) 2 rfl (by decide) rfl rfl rfl (Nat.le_of_ble_eq_true rfl)
  · exact of_idx (p := .p0) (op := 0xA9) (x := x) rfl (by decide) rfl (Nat.le_of_ble_eq_true rfl)
  · exact of_length (p := .p0) (op := 0xB9) 3 rfl (by decide) rfl rfl rfl (Nat.le_of_ble_eq_true rfl)
theorem adcb (m : Src8) : Statement (.adcb m) := by
  rcases m with v | (d | x | w)
  · exact of_length (p := .p0) (op := 0xC9) 2 rfl (by decide) rfl rfl rfl (Nat.le_of_ble_eq_true rfl)
  · exact of_length (p := .p0) (op := 0xD9) 2 rfl (by decide) rfl rfl rfl (Nat.le_of_ble_eq_true rfl)
  · exact of_idx (p := .p0) (op := 0xE9) (x := x) rfl (by decide) rfl (Nat.le_of_ble_eq_true rfl)
  · exact of_length (p := .p0) (op := 0xF9) 3 rfl (by decide) rfl rfl rfl (Nat.le_of_ble_eq_true rfl)
theorem suba (m : Src8) : Statement (.suba m) := by
  rcases m with v | (d | x | w)
  · exact of_length (p := .p0) (op := 0x80) 2 rfl (by decide) rfl rfl rfl (Nat.le_of_ble_eq_true rfl)
  · exact of_length (p := .p0) (op := 0x90) 2 rfl (by decide) rfl rfl rfl (Nat.le_of_ble_eq_true rfl)
  · exact of_idx (p := .p0) (op := 0xA0) (x := x) rfl (by decide) rfl (Nat.le_of_ble_eq_true rfl)
  · exact of_length (p := .p0) (op := 0xB0) 3 rfl (by decide) rfl rfl rfl (Nat.le_of_ble_eq_true rfl)
theorem subb (m : Src8) : Statement (.subb m) := by
  rcases m with v | (d | x | w)
  · exact of_length (p := .p0) (op := 0xC0) 2 rfl (by decide) rfl rfl rfl (Nat.le_of_ble_eq_true rfl)
  · exact of_length (p := .p0) (op := 0xD0) 2 rfl (by decide) rfl rfl rfl (Nat.le_of_ble_eq_true rfl)
  · exact of_idx (p := .p0) (op := 0xE0) (x := x) rfl (by decide) rfl (Nat.le_of_ble_eq_true rfl)
  · exact of_length (p := .p0) (op := 0xF0) 3 rfl (by decide) rfl rfl rfl (Nat.le_of_ble_eq_true rfl)
theorem subd (m : Src16) : Statement (.subd m) := by
  rcases m with v | (d | x | w)
  · exact of_length (p := .p0) (op := 0x83) 3 rfl (by decide) rfl rfl rfl (Nat.le_of_ble_eq_true rfl)
  · exact of_length (p := .p0) (op := 0x93) 2 rfl (by decide) rfl rfl rfl (Nat.le_of_ble_eq_true rfl)
  · exact of_idx (p := .p0) (op := 0xA3) (x := x) rfl (by decide) rfl (Nat.le_of_ble_eq_true rfl)
  · exact of_length (p := .p0) (op := 0xB3) 3 rfl (by decide) rfl rfl rfl (Nat.le_of_ble_eq_true rfl)
theorem cmpa (m : Src8) : Statement (.cmpa m) := by
  rcases m with v | (d | x | w)
  · exact of_length (p := .p0) (op := 0x81) 2 rfl (by decide) rfl rfl rfl (Nat.le_of_ble_eq_true rfl)
  · exact of_length (p := .p0) (op := 0x91) 2 rfl (by decide) rfl rfl rfl (Nat.le_of_ble_eq_true rfl)
  · exact of_idx (p := .p0) (op := 0xA1) (x := x) rfl (by decide) rfl (Nat.le_of_ble_eq_true rfl)
  · exact of_length (p := .p0) (op := 0xB1) 3 rfl (by decide) rfl rfl rfl (Nat.le_of_ble_eq_true rfl)
theorem cmpb (m : Src8) : Statement (.cmpb m) := by
  rcases m with v | (d | x | w)
  · exact of_length (p := .p0) (op := 0xC1) 2 rfl (by decide) rfl rfl rfl (Nat.le_of_ble_eq_true rfl)
  · exact of_length (p := .p0) (op := 0xD1) 2 rfl (by decide) rfl rfl rfl (Nat.le_of_ble_eq_true rfl)
  · exact of_idx (p := .p0) (op := 0xE1) (x := x) rfl (by decide) rfl (Nat.le_of_ble_eq_true rfl)
  · exact of_length (p := .p0) (op := 0xF1) 3 rfl (by decide) rfl rfl rfl (Nat.le_of_ble_eq_true rfl)
theorem cmpd (m : Src16) : Statement (.cmpd m) := by
  rcases m with v | (d | x | w)
  · exact of_length (p := .p1) (op := 0x83) 4 rfl (by decide) rfl rfl rfl (Nat.le_of_ble_eq_true rfl)
  · exact of_length (p := .p1) (op := 0x93) 3 rfl (by decide) rfl rfl rfl (Nat.le_of_ble_eq_true rfl)
  · exact of_idx_paged (p := .p1) (op := 0xA3) (x := x) rfl (by decide) rfl (Nat.le_of_ble_eq_true rfl)
  · exact of_length (p := .p1) (op := 0xB3) 4 rfl (by decide) rfl rfl rfl (Nat.le_of_ble_eq_true rfl)
theorem cmpx (m : Src16) : Statement (.cmpx m) := by
  rcases m with v | (d | x | w)
  · exact of_length (p := .p0) (op := 0x8C) 3 rfl (by decide) rfl rfl rfl (Nat.le_of_ble_eq_true rfl)
  · exact of_length (p := .p0) (op := 0x9C) 2 rfl (by decide) rfl rfl rfl (Nat.le_of_ble_eq_true rfl)
  · exact of_idx (p := .p0) (op := 0xAC) (x := x) rfl (by decide) rfl (Nat.le_of_ble_eq_true rfl)
  · exact of_length (p := .p0) (op := 0xBC) 3 rfl (by decide) rfl rfl rfl (Nat.le_of_ble_eq_true rfl)
theorem cmpy (m : Src16) : Statement (.cmpy m) := by
  rcases m with v | (d | x | w)
  · exact of_length (p := .p1) (op := 0x8C) 4 rfl (by decide) rfl rfl rfl (Nat.le_of_ble_eq_true rfl)
  · exact of_length (p := .p1) (op := 0x9C) 3 rfl (by decide) rfl rfl rfl (Nat.le_of_ble_eq_true rfl)
  · exact of_idx_paged (p := .p1) (op := 0xAC) (x := x) rfl (by decide) rfl (Nat.le_of_ble_eq_true rfl)
  · exact of_length (p := .p1) (op := 0xBC) 4 rfl (by decide) rfl rfl rfl (Nat.le_of_ble_eq_true rfl)
theorem cmpu (m : Src16) : Statement (.cmpu m) := by
  rcases m with v | (d | x | w)
  · exact of_length (p := .p2) (op := 0x83) 4 rfl (by decide) rfl rfl rfl (Nat.le_of_ble_eq_true rfl)
  · exact of_length (p := .p2) (op := 0x93) 3 rfl (by decide) rfl rfl rfl (Nat.le_of_ble_eq_true rfl)
  · exact of_idx_paged (p := .p2) (op := 0xA3) (x := x) rfl (by decide) rfl (Nat.le_of_ble_eq_true rfl)
  · exact of_length (p := .p2) (op := 0xB3) 4 rfl (by decide) rfl rfl rfl (Nat.le_of_ble_eq_true rfl)
theorem cmps (m : Src16) : Statement (.cmps m) := by
  rcases m with v | (d | x | w)
  · exact of_length (p := .p2) (op := 0x8C) 4 rfl (by decide) rfl rfl rfl (Nat.le_of_ble_eq_true rfl)
  · exact of_length (p := .p2) (op := 0x9C) 3 rfl (by decide) rfl rfl rfl (Nat.le_of_ble_eq_true rfl)
  · exact of_idx_paged (p := .p2) (op := 0xAC) (x := x) rfl (by decide) rfl (Nat.le_of_ble_eq_true rfl)
  · exact of_length (p := .p2) (op := 0xBC) 4 rfl (by decide) rfl rfl rfl (Nat.le_of_ble_eq_true rfl)
theorem neg (e : Ea) : Statement (.neg e) := by
  rcases e with d | x | w
  · exact of_length (p := .p0) (op := 0x00) 2 rfl (by decide) rfl rfl rfl (Nat.le_of_ble_eq_true rfl)
  · exact of_idx (p := .p0) (op := 0x60) (x := x) rfl (by decide) rfl (Nat.le_of_ble_eq_true rfl)
  · exact of_length (p := .p0) (op := 0x70) 3 rfl (by decide) rfl rfl rfl (Nat.le_of_ble_eq_true rfl)
theorem nega : Statement .nega := of_length (p := .p0) (op := 0x40) 1 rfl (by decide) rfl rfl rfl (Nat.le_of_ble_eq_true rfl)
theorem negb : Statement .negb := of_length (p := .p0) (op := 0x50) 1 rfl (by decide) rfl rfl rfl (Nat.le_of_ble_eq_true rfl)
theorem inc (e : Ea) : Statement (.inc e) := by
  rcases e with d | x | w
  · exact of_length (p := .p0) (op := 0x0C) 2 rfl (by decide) rfl rfl rfl (Nat.le_of_ble_eq_true rfl)
  · exact of_idx (p := .p0) (op := 0x6C) (x := x) rfl (by decide) rfl (Nat.le_of_ble_eq_true rfl)
  · exact of_length (p := .p0) (op := 0x7C) 3 rfl (by decide) rfl rfl rfl (Nat.le_of_ble_eq_true rfl)
theorem inca : Statement .inca := of_length (p := .p0) (op := 0x4C) 1 rfl (by decide) rfl rfl rfl (Nat.le_of_ble_eq_true rfl)
theorem incb : Statement .incb := of_length (p := .p0) (op := 0x5C) 1 rfl (by decide) rfl rfl rfl (Nat.le_of_ble_eq_true rfl)
theorem dec (e : Ea) : Statement (.dec e) := by
  rcases e with d | x | w
  · exact of_length (p := .p0) (op := 0x0A) 2 rfl (by decide) rfl rfl rfl (Nat.le_of_ble_eq_true rfl)
  · exact of_idx (p := .p0) (op := 0x6A) (x := x) rfl (by decide) rfl (Nat.le_of_ble_eq_true rfl)
  · exact of_length (p := .p0) (op := 0x7A) 3 rfl (by decide) rfl rfl rfl (Nat.le_of_ble_eq_true rfl)
theorem deca : Statement .deca := of_length (p := .p0) (op := 0x4A) 1 rfl (by decide) rfl rfl rfl (Nat.le_of_ble_eq_true rfl)
theorem decb : Statement .decb := of_length (p := .p0) (op := 0x5A) 1 rfl (by decide) rfl rfl rfl (Nat.le_of_ble_eq_true rfl)
theorem asr (e : Ea) : Statement (.asr e) := by
  rcases e with d | x | w
  · exact of_length (p := .p0) (op := 0x07) 2 rfl (by decide) rfl rfl rfl (Nat.le_of_ble_eq_true rfl)
  · exact of_idx (p := .p0) (op := 0x67) (x := x) rfl (by decide) rfl (Nat.le_of_ble_eq_true rfl)
  · exact of_length (p := .p0) (op := 0x77) 3 rfl (by decide) rfl rfl rfl (Nat.le_of_ble_eq_true rfl)
theorem asra : Statement .asra := of_length (p := .p0) (op := 0x47) 1 rfl (by decide) rfl rfl rfl (Nat.le_of_ble_eq_true rfl)
theorem asrb : Statement .asrb := of_length (p := .p0) (op := 0x57) 1 rfl (by decide) rfl rfl rfl (Nat.le_of_ble_eq_true rfl)
theorem lsr (e : Ea) : Statement (.lsr e) := by
  rcases e with d | x | w
  · exact of_length (p := .p0) (op := 0x04) 2 rfl (by decide) rfl rfl rfl (Nat.le_of_ble_eq_true rfl)
  · exact of_idx (p := .p0) (op := 0x64) (x := x) rfl (by decide) rfl (Nat.le_of_ble_eq_true rfl)
  · exact of_length (p := .p0) (op := 0x74) 3 rfl (by decide) rfl rfl rfl (Nat.le_of_ble_eq_true rfl)
theorem lsra : Statement .lsra := of_length (p := .p0) (op := 0x44) 1 rfl (by decide) rfl rfl rfl (Nat.le_of_ble_eq_true rfl)
theorem lsrb : Statement .lsrb := of_length (p := .p0) (op := 0x54) 1 rfl (by decide) rfl rfl rfl (Nat.le_of_ble_eq_true rfl)
theorem asl (e : Ea) : Statement (.asl e) := by
  rcases e with d | x | w
  · exact of_length (p := .p0) (op := 0x08) 2 rfl (by decide) rfl rfl rfl (Nat.le_of_ble_eq_true rfl)
  · exact of_idx (p := .p0) (op := 0x68) (x := x) rfl (by decide) rfl (Nat.le_of_ble_eq_true rfl)
  · exact of_length (p := .p0) (op := 0x78) 3 rfl (by decide) rfl rfl rfl (Nat.le_of_ble_eq_true rfl)
theorem asla : Statement .asla := of_length (p := .p0) (op := 0x48) 1 rfl (by decide) rfl rfl rfl (Nat.le_of_ble_eq_true rfl)
theorem aslb : Statement .aslb := of_length (p := .p0) (op := 0x58) 1 rfl (by decide) rfl rfl rfl (Nat.le_of_ble_eq_true rfl)
theorem com (e : Ea) : Statement (.com e) := by
  rcases e with d | x | w
  · exact of_length (p := .p0) (op := 0x03) 2 rfl (by decide) rfl rfl rfl (Nat.le_of_ble_eq_true rfl)
  · exact of_idx (p := .p0) (op := 0x63) (x := x) rfl (by decide) rfl (Nat.le_of_ble_eq_true rfl)
  · exact of_length (p := .p0) (op := 0x73) 3 rfl (by decide) rfl rfl rfl (Nat.le_of_ble_eq_true rfl)
theorem coma : Statement .coma := of_length (p := .p0) (op := 0x43) 1 rfl (by decide) rfl rfl rfl (Nat.le_of_ble_eq_true rfl)
theorem comb : Statement .comb := of_length (p := .p0) (op := 0x53) 1 rfl (by decide) rfl rfl rfl (Nat.le_of_ble_eq_true rfl)
theorem ora (m : Src8) : Statement (.ora m) := by
  rcases m with v | (d | x | w)
  · exact of_length (p := .p0) (op := 0x8A) 2 rfl (by decide) rfl rfl rfl (Nat.le_of_ble_eq_true rfl)
  · exact of_length (p := .p0) (op := 0x9A) 2 rfl (by decide) rfl rfl rfl (Nat.le_of_ble_eq_true rfl)
  · exact of_idx (p := .p0) (op := 0xAA) (x := x) rfl (by decide) rfl (Nat.le_of_ble_eq_true rfl)
  · exact of_length (p := .p0) (op := 0xBA) 3 rfl (by decide) rfl rfl rfl (Nat.le_of_ble_eq_true rfl)
theorem orb (m : Src8) : Statement (.orb m) := by
  rcases m with v | (d | x | w)
  · exact of_length (p := .p0) (op := 0xCA) 2 rfl (by decide) rfl rfl rfl (Nat.le_of_ble_eq_true rfl)
  · exact of_length (p := .p0) (op := 0xDA) 2 rfl (by decide) rfl rfl rfl (Nat.le_of_ble_eq_true rfl)
  · exact of_idx (p := .p0) (op := 0xEA) (x := x) rfl (by decide) rfl (Nat.le_of_ble_eq_true rfl)
  · exact of_length (p := .p0) (op := 0xFA) 3 rfl (by decide) rfl rfl rfl (Nat.le_of_ble_eq_true rfl)
theorem anda (m : Src8) : Statement (.anda m) := by
  rcases m with v | (d | x | w)
  · exact of_length (p := .p0) (op := 0x84) 2 rfl (by decide) rfl rfl rfl (Nat.le_of_ble_eq_true rfl)
  · exact of_length (p := .p0) (op := 0x94) 2 rfl (by decide) rfl rfl rfl (Nat.le_of_ble_eq_true rfl)
  · exact of_idx (p := .p0) (op := 0xA4) (x := x) rfl (by decide) rfl (Nat.le_of_ble_eq_true rfl)
  · exact of_length (p := .p0) (op := 0xB4) 3 rfl (by decide) rfl rfl rfl (Nat.le_of_ble_eq_true rfl)
theorem andb (m : Src8) : Statement (.andb m) := by
  rcases m with v | (d | x | w)
  · exact of_length (p := .p0) (op := 0xC4) 2 rfl (by decide) rfl rfl rfl (Nat.le_of_ble_eq_true rfl)
  · exact of_length (p := .p0) (op := 0xD4) 2 rfl (by decide) rfl rfl rfl (Nat.le_of_ble_eq_true rfl)
  · exact of_idx (p := .p0) (op := 0xE4) (x := x) rfl (by decide) rfl (Nat.le_of_ble_eq_true rfl)
  · exact of_length (p := .p0) (op := 0xF4) 3 rfl (by decide) rfl rfl rfl (Nat.le_of_ble_eq_true rfl)
theorem bita (m : Src8) : Statement (.bita m) := by
  rcases m with v | (d | x | w)
  · exact of_length (p := .p0) (op := 0x85) 2 rfl (by decide) rfl rfl rfl (Nat.le_of_ble_eq_true rfl)
  · exact of_length (p := .p0) (op := 0x95) 2 rfl (by decide) rfl rfl rfl (Nat.le_of_ble_eq_true rfl)
  · exact of_idx (p := .p0) (op := 0xA5) (x := x) rfl (by decide) rfl (Nat.le_of_ble_eq_true rfl)
  · exact of_length (p := .p0) (op := 0xB5) 3 rfl (by decide) rfl rfl rfl (Nat.le_of_ble_eq_true rfl)
theorem bitb (m : Src8) : Statement (.bitb m) := by
  rcases m with v | (d | x | w)
  · exact of_length (p := .p0) (op := 0xC5) 2 rfl (by decide) rfl rfl rfl (Nat.le_of_ble_eq_true rfl)
  · exact of_length (p := .p0) (op := 0xD5) 2 rfl (by decide) rfl rfl rfl (Nat.le_of_ble_eq_true rfl)
  · exact of_idx (p := .p0) (op := 0xE5) (x := x) rfl (by decide) rfl (Nat.le_of_ble_eq_true rfl)
  · exact of_length (p := .p0) (op := 0xF5) 3 rfl (by decide) rfl rfl rfl (Nat.le_of_ble_eq_true rfl)
theorem orcc (m : Byte) : Statement (.orcc m) := of_length (p := .p0) (op := 0x1A) 2 rfl (by decide) rfl rfl rfl (Nat.le_of_ble_eq_true rfl)
theorem andcc (m : Byte) : Statement (.andcc m) := of_length (p := .p0) (op := 0x1C) 2 rfl (by decide) rfl rfl rfl (Nat.le_of_ble_eq_true rfl)
theorem tst (e : Ea) : Statement (.tst e) := by
  rcases e with d | x | w
  · exact of_length (p := .p0) (op := 0x0D) 2 rfl (by decide) rfl rfl rfl (Nat.le_of_ble_eq_true rfl)
  · exact of_idx (p := .p0) (op := 0x6D) (x := x) rfl (by decide) rfl (Nat.le_of_ble_eq_true rfl)
  · exact of_length (p := .p0) (op := 0x7D) 3 rfl (by decide) rfl rfl rfl (Nat.le_of_ble_eq_true rfl)
theorem tsta : Statement .tsta := of_length (p := .p0) (op := 0x4D) 1 rfl (by decide) rfl rfl rfl (Nat.le_of_ble_eq_true rfl)
theorem tstb : Statement .tstb := of_length (p := .p0) (op := 0x5D) 1 rfl (by decide) rfl rfl rfl (Nat.le_of_ble_eq_true rfl)
theorem jmp (e : Ea) : Statement (.jmp e) := by
  rcases e with d | x | w
  · exact of_length (p := .p0) (op := 0x0E) 2 rfl (by decide) rfl rfl rfl (Nat.le_of_ble_eq_true rfl)
  · exact of_idx (p := .p0) (op := 0x6E) (x := x) rfl (by decide) rfl (Nat.le_of_ble_eq_true rfl)
  · exact of_length (p := .p0) (op := 0x7E) 3 rfl (by decide) rfl rfl rfl (Nat.le_of_ble_eq_true rfl)
theorem jsr (e : Ea) : Statement (.jsr e) := by
  rcases e with d | x | w
  · exact of_length (p := .p0) (op := 0x9D) 2 rfl (by decide) rfl rfl rfl (Nat.le_of_ble_eq_true rfl)
  · exact of_idx (p := .p0) (op := 0xAD) (x := x) rfl (by decide) rfl (Nat.le_of_ble_eq_true rfl)
  · exact of_length (p := .p0) (op := 0xBD) 3 rfl (by decide) rfl rfl rfl (Nat.le_of_ble_eq_true rfl)
theorem bsr (off : Byte) : Statement (.bsr off) := of_length (p := .p0) (op := 0x8D) 2 rfl (by decide) rfl rfl rfl (Nat.le_of_ble_eq_true rfl)
theorem lbsr (off : Word) : Statement (.lbsr off) := of_length (p := .p0) (op := 0x17) 3 rfl (by decide) rfl rfl rfl (Nat.le_of_ble_eq_true rfl)
theorem rts : Statement .rts := of_length (p := .p0) (op := 0x39) 1 rfl (by decide) rfl rfl rfl (Nat.le_of_ble_eq_true rfl)
theorem nop : Statement .nop := of_length (p := .p0) (op := 0x12) 1 rfl (by decide) rfl rfl rfl (Nat.le_of_ble_eq_true rfl)
theorem bra (off : Byte) : Statement (.bra off) := of_length (p := .p0) (op := 0x20) 2 rfl (by decide) rfl rfl rfl (Nat.le_of_ble_eq_true rfl)
theorem brn (off : Byte) : Statement (.brn off) := of_length (p := .p0) (op := 0x21) 2 rfl (by decide) rfl rfl rfl (Nat.le_of_ble_eq_true rfl)
theorem bhi (off : Byte) : Statement (.bhi off) := of_length (p := .p0) (op := 0x22) 2 rfl (by decide) rfl rfl rfl (Nat.le_of_ble_eq_true rfl)
theorem bls (off : Byte) : Statement (.bls off) := of_length (p := .p0) (op := 0x23) 2 rfl (by decide) rfl rfl rfl (Nat.le_of_ble_eq_true rfl)
theorem bcc (off : Byte) : Statement (.bcc off) := of_length (p := .p0) (op := 0x24) 2 rfl (by decide) rfl rfl rfl (Nat.le_of_ble_eq_true rfl)
theorem bcs (off : Byte) : Statement (.bcs off) := of_length (p := .p0) (op := 0x25) 2 rfl (by decide) rfl rfl rfl (Nat.le_of_ble_eq_true rfl)
theorem bne (off : Byte) : Statement (.bne off) := of_length (p := .p0) (op := 0x26) 2 rfl (by decide) rfl rfl rfl (Nat.le_of_ble_eq_true rfl)
theorem beq (off : Byte) : Statement (.beq off) := of_length (p := .p0) (op := 0x27) 2 rfl (by decide) rfl rfl rfl (Nat.le_of_ble_eq_true rfl)
theorem bvc (off : Byte) : Statement (.bvc off) := of_length (p := .p0) (op := 0x28) 2 rfl (by decide) rfl rfl rfl (Nat.le_of_ble_eq_true rfl)
theorem bvs (off : Byte) : Statement (.bvs off) := of_length (p := .p0) (op := 0x29) 2 rfl (by decide) rfl rfl rfl (Nat.le_of_ble_eq_true rfl)
theorem bpl (off : Byte) : Statement (.bpl off) := of_length (p := .p0) (op := 0x2A) 2 rfl (by decide) rfl rfl rfl (Nat.le_of_ble_eq_true rfl)
theorem bmi (off : Byte) : Statement (.bmi off) := of_length (p := .p0) (op := 0x2B) 2 rfl (by decide) rfl rfl rfl (Nat.le_of_ble_eq_true rfl)
theorem bge (off : Byte) : Statement (.bge off) := of_length (p := .p0) (op := 0x2C) 2 rfl (by decide) rfl rfl rfl (Nat.le_of_ble_eq_true rfl)
theorem blt (off : Byte) : Statement (.blt off) := of_length (p := .p0) (op := 0x2D) 2 rfl (by decide) rfl rfl rfl (Nat.le_of_ble_eq_true rfl)
theorem bgt (off : Byte) : Statement (.bgt off) := of_length (p := .p0) (op := 0x2E) 2 rfl (by decide) rfl rfl rfl (Nat.le_of_ble_eq_true rfl)
theorem ble (off : Byte) : Statement (.ble off) := of_length (p := .p0) (op := 0x2F) 2 rfl (by decide) rfl rfl rfl (Nat.le_of_ble_eq_true rfl)
theorem lbra (off : Word) : Statement (.lbra off) := of_length (p := .p0) (op := 0x16) 3 rfl (by decide) rfl rfl rfl (Nat.le_of_ble_eq_true rfl)
theorem lbrn (off : Word) : Statement (.lbrn off) := of_length (p := .p1) (op := 0x21) 4 rfl (by decide) rfl rfl rfl (Nat.le_of_ble_eq_true rfl)
theorem lbhi (off : Word) : Statement (.lbhi off) := of_length (p := .p1) (op := 0x22) 4 rfl (by decide) rfl rfl rfl (Nat.le_of_ble_eq_true rfl)
theorem lbls (off : Word) : Statement (.lbls off) := of_length (p := .p1) (op := 0x23) 4 rfl (by decide) rfl rfl rfl (Nat.le_of_ble_eq_true rfl)
theorem lbcc (off : Word) : Statement (.lbcc off) := of_length (p := .p1) (op := 0x24) 4 rfl (by decide) rfl rfl rfl (Nat.le_of_ble_eq_true rfl)
theorem lbcs (off : Word) : Statement (.lbcs off) := of_length (p := .p1) (op := 0x25) 4 rfl (by decide) rfl rfl rfl (Nat.le_of_ble_eq_true rfl)
theorem lbne (off : Word) : Statement (.lbne off) := of_length (p := .p1) (op := 0x26) 4 rfl (by decide) rfl rfl rfl (Nat.le_of_ble_eq_true rfl)
theorem lbeq (off : Word) : Statement (.lbeq off) := of_length (p := .p1) (op := 0x27) 4 rfl (by decide) rfl rfl rfl (Nat.le_of_ble_eq_true rfl)
theorem lbvc (off : Word) : Statement (.lbvc off) := of_length (p := .p1) (op := 0x28) 4 rfl (by decide) rfl rfl rfl (Nat.le_of_ble_eq_true rfl)
theorem lbvs (off : Word) : Statement (.lbvs off) := of_length (p := .p1) (op := 0x29) 4 rfl (by decide) rfl rfl rfl (Nat.le_of_ble_eq_true rfl)
theorem lbpl (off : Word) : Statement (.lbpl off) := of_length (p := .p1) (op := 0x2A) 4 rfl (by decide) rfl rfl rfl (Nat.le_of_ble_eq_true rfl)
theorem lbmi (off : Word) : Statement (.lbmi off) := of_length (p := .p1) (op := 0x2B) 4 rfl (by decide) rfl rfl rfl (Nat.le_of_ble_eq_true rfl)
theorem lbge (off : Word) : Statement (.lbge off) := of_length (p := .p1) (op := 0x2C) 4 rfl (by decide) rfl rfl rfl (Nat.le_of_ble_eq_true rfl)
theorem lblt (off : Word) : Statement (.lblt off) := of_length (p := .p1) (op := 0x2D) 4 rfl (by decide) rfl rfl rfl (Nat.le_of_ble_eq_true rfl)
theorem lbgt (off : Word) : Statement (.lbgt off) := of_length (p := .p1) (op := 0x2E) 4 rfl (by decide) rfl rfl rfl (Nat.le_of_ble_eq_true rfl)
theorem lble (off : Word) : Statement (.lble off) := of_length (p := .p1) (op := 0x2F) 4 rfl (by decide) rfl rfl rfl (Nat.le_of_ble_eq_true rfl)
theorem pshs (m : Byte) : Statement (.pshs m) := of_length (p := .p0) (op := 0x34) 2 rfl (by decide) rfl rfl rfl (Nat.le_of_ble_eq_true rfl)
theorem puls (m : Byte) : Statement (.puls m) := of_length (p := .p0) (op := 0x35) 2 rfl (by decide) rfl rfl rfl (Nat.le_of_ble_eq_true rfl)
theorem pshu (m : Byte) : Statement (.pshu m) := of_length (p := .p0) (op := 0x36) 2 rfl (by decide) rfl rfl rfl (Nat.le_of_ble_eq_true rfl)
theorem pulu (m : Byte) : Statement (.pulu m) := of_length (p := .p0) (op := 0x37) 2 rfl (by decide) rfl rfl rfl (Nat.le_of_ble_eq_true rfl)
theorem exg (r1 r2 : XReg) : Statement (.exg r1 r2) := of_length (p := .p0) (op := 0x1E) 2 rfl (by decide) rfl rfl rfl (Nat.le_of_ble_eq_true rfl)
theorem tfr (r1 r2 : XReg) : Statement (.tfr r1 r2) := of_length (p := .p0) (op := 0x1F) 2 rfl (by decide) rfl rfl rfl (Nat.le_of_ble_eq_true rfl)
theorem eora (m : Src8) : Statement (.eora m) := by
  rcases m with v | (d | x | w)
  · exact of_length (p := .p0) (op := 0x88) 2 rfl (by decide) rfl rfl rfl (Nat.le_of_ble_eq_true rfl)
  · exact of_length (p := .p0) (op := 0x98) 2 rfl (by decide) rfl rfl rfl (Nat.le_of_ble_eq_true rfl)
  · exact of_idx (p := .p0) (op := 0xA8) (x := x) rfl (by decide) rfl (Nat.le_of_ble_eq_true rfl)
  · exact of_length (p := .p0) (op := 0xB8) 3 rfl (by decide) rfl rfl rfl (Nat.le_of_ble_eq_true rfl)
theorem eorb (m : Src8) : Statement (.eorb m) := by
  rcases m with v | (d | x | w)
  · exact of_length (p := .p0) (op := 0xC8) 2 rfl (by decide) rfl rfl rfl (Nat.le_of_ble_eq_true rfl)
  · exact of_length (p := .p0) (op := 0xD8) 2 rfl (by decide) rfl rfl rfl (Nat.le_of_ble_eq_true rfl)
  · exact of_idx (p := .p0) (op := 0xE8) (x := x) rfl (by decide) rfl (Nat.le_of_ble_eq_true rfl)
  · exact of_length (p := .p0) (op := 0xF8) 3 rfl (by decide) rfl rfl rfl (Nat.le_of_ble_eq_true rfl)
theorem sbca (m : Src8) : Statement (.sbca m) := by
  rcases m with v | (d | x | w)
  · exact of_length (p := .p0) (op := 0x82) 2 rfl (by decide) rfl rfl rfl (Nat.le_of_ble_eq_true rfl)
  · exact of_length (p := .p0) (op := 0x92) 2 rfl (by decide) rfl rfl rfl (Nat.le_of_ble_eq_true rfl)
  · exact of_idx (p := .p0) (op := 0xA2) (x := x) rfl (by decide) rfl (Nat.le_of_ble_eq_true rfl)
  · exact of_length (p := .p0) (op := 0xB2) 3 rfl (by decide) rfl rfl rfl (Nat.le_of_ble_eq_true rfl)
theorem sbcb (m : Src8) : Statement (.sbcb m) := by
  rcases m with v | (d | x | w)
  · exact of_length (p := .p0) (op := 0xC2) 2 rfl (by decide) rfl rfl rfl (Nat.le_of_ble_eq_true rfl)
  · exact of_length (p := .p0) (op := 0xD2) 2 rfl (by decide) rfl rfl rfl (Nat.le_of_ble_eq_true rfl)
  · exact of_idx (p := .p0) (op := 0xE2) (x := x) rfl (by decide) rfl (Nat.le_of_ble_eq_true rfl)
  · exact of_length (p := .p0) (op := 0xF2) 3 rfl (by decide) rfl rfl rfl (Nat.le_of_ble_eq_true rfl)
theorem rol (e : Ea) : Statement (.rol e) := by
  rcases e with d | x | w
  · exact of_length (p := .p0) (op := 0x09) 2 rfl (by decide) rfl rfl rfl (Nat.le_of_ble_eq_true rfl)
  · exact of_idx (p := .p0) (op := 0x69) (x := x) rfl (by decide) rfl (Nat.le_of_ble_eq_true rfl)
  · exact of_length (p := .p0) (op := 0x79) 3 rfl (by decide) rfl rfl rfl (Nat.le_of_ble_eq_true rfl)
theorem rola : Statement .rola := of_length (p := .p0) (op := 0x49) 1 rfl (by decide) rfl rfl rfl (Nat.le_of_ble_eq_true rfl)
theorem rolb : Statement .rolb := of_length (p := .p0) (op := 0x59) 1 rfl (by decide) rfl rfl rfl (Nat.le_of_ble_eq_true rfl)
theorem ror (e : Ea) : Statement (.ror e) := by
  rcases e with d | x | w
  · exact of_length (p := .p0) (op := 0x06) 2 rfl (by decide) rfl rfl rfl (Nat.le_of_ble_eq_true rfl)
  · exact of_idx (p := .p0) (op := 0x66) (x := x) rfl (by decide) rfl (Nat.le_of_ble_eq_true rfl)
  · exact of_length (p := .p0) (op := 0x76) 3 rfl (by decide) rfl rfl rfl (Nat.le_of_ble_eq_true rfl)
theorem rora : Statement .rora := of_length (p := .p0) (op := 0x46) 1 rfl (by decide) rfl rfl rfl (Nat.le_of_ble_eq_true rfl)
theorem rorb : Statement .rorb := of_length (p := .p0) (op := 0x56) 1 rfl (by decide) rfl rfl rfl (Nat.le_of_ble_eq_true rfl)
theorem mul : Statement .mul := of_length (p := .p0) (op := 0x3D) 1 rfl (by decide) rfl rfl rfl (Nat.le_of_ble_eq_true rfl)
theorem sex : Statement .sex := of_length (p := .p0) (op := 0x1D) 1 rfl (by decide) rfl rfl rfl (Nat.le_of_ble_eq_true rfl)
theorem abx : Statement .abx := of_length (p := .p0) (op := 0x3A) 1 rfl (by decide) rfl rfl rfl (Nat.le_of_ble_eq_true rfl)
theorem daa : Statement .daa := of_length (p := .p0) (op := 0x19) 1 rfl (by decide) rfl rfl rfl (Nat.le_of_ble_eq_true rfl)
theorem swi : Statement .swi := of_length (p := .p0) (op := 0x3F) 1 rfl (by decide) rfl rfl rfl (Nat.le_of_ble_eq_true rfl)
theorem swi2 : Statement .swi2 := of_length (p := .p1) (op := 0x3F) 2 rfl (by decide) rfl rfl rfl (Nat.le_of_ble_eq_true rfl)
theorem swi3 : Statement .swi3 := of_length (p := .p2) (op := 0x3F) 2 rfl (by decide) rfl rfl rfl (Nat.le_of_ble_eq_true rfl)
theorem rti : Statement .rti := of_length (p := .p0) (op := 0x3B) 1 rfl (by decide) rfl rfl rfl (Nat.le_of_ble_eq_true rfl)
theorem cwai (m : Byte) : Statement (.cwai m) := of_length (p := .p0) (op := 0x3C) 2 rfl (by decide) rfl rfl rfl (Nat.le_of_ble_eq_true rfl)
theorem sync : Statement .sync := of_length (p := .p0) (op := 0x13) 1 rfl (by decide) rfl rfl rfl (Nat.le_of_ble_eq_true rfl)

end Sys2Proof.Laws.HasRow
end

