-- ==== Sys2Proof/Tests/Slice0.lean ====
section
/-!
SUPPORT. Tests of the model: the refusals of WellFormed, the decoding of a word of every constructor, the
worked example of every instruction's rule, the device vectors of spec/95_test_vectors.md, and for every
statement with hypotheses a witness that meets them.
-/
namespace Sys2Proof.Tests

set_option Elab.async false

open Sys2Proof.Machine Host

/-! ## Helpers -/

/-- A machine on the flat bus (spec/95_test_vectors.md section 0), CC = 0, with code at 0xF000 and cells. -/
def rig (code : List Byte) (cells : List Cell) : State :=
  { State.reset with
    cc := 0
    pc := 0xF000
    mem := cells.foldl (fun (m : Memory) (c : Cell) => m.put c.1 c.2) (Memory.putAll [] 0xF000 code)
    cfg := { Config.hardware with bus := .flatTest } }

/-- As `rig` under the parameters that execute the extension set (spec/46_extension.md R370). -/
def rigX (code : List Byte) (cells : List Cell) : State :=
  { rig code cells with
    cfg := { Config.hardware with bus := .flatTest, extendedSet := true, interruptModel := .mc6809 } }

/-- One step answers a next state with the property. -/
def ran (s : State) (p : State → Bool) : Bool :=
  match step s with
  | .next t => p t
  | _ => false

/-- One step faults with the kind and leaves a state with the property. -/
def faults (s : State) (k : FaultKind) (p : State → Bool) : Bool :=
  match step s with
  | .fault (.fatal r t) => decide (r.kind = k) && p t
  | _ => false

/-- The bytes decode to the instruction with nothing left over. -/
def reads (bs : List Byte) (i : Instr) : Bool := decide (decode bs = .ok (i, []))

theorem ran_next {s : State} {p : State → Bool} (h : ran s p = true) :
    ∃ t, step s = .next t ∧ p t = true := by
  unfold ran at h
  split at h
  · exact ⟨_, by assumption, h⟩
  · cases h

/-! ## WellFormed: each ill-formed term is refused (spec/45_stack_transfer.md R350) -/

theorem test_wellFormed_refuses_exg_8_16 : (Instr.exg (.r8 .a) (.r16 .x)).wellFormed = false := by decide
theorem test_wellFormed_refuses_exg_16_8 : (Instr.exg (.r16 .d) (.r8 .b)).wellFormed = false := by decide
theorem test_wellFormed_refuses_tfr_8_16 : (Instr.tfr (.r8 .dp) (.r16 .pc)).wellFormed = false := by decide
theorem test_wellFormed_refuses_tfr_16_8 : (Instr.tfr (.r16 .s) (.r8 .cc)).wellFormed = false := by decide
theorem test_wellFormed_accepts :
    (Instr.exg (.r8 .a) (.r8 .b)).wellFormed = true ∧ (Instr.tfr (.r16 .x) (.r16 .pc)).wellFormed = true := by
  decide

/-! ## Decoding: a word of every constructor, from the encoding of its rule -/

/-- spec/41_load_store.md. -/
theorem test_decode_loads_and_stores :
    (reads [0xA6, 0x80] (.lda (.mem (.idx (.inc1 .x)))) &&
    reads [0xC6, 0x00] (.ldb (.imm 0x00)) &&
    reads [0xCC, 0x80, 0x01] (.ldd (.imm 0x8001)) &&
    reads [0x8E, 0x00, 0x00] (.ldx (.imm 0x0000)) &&
    reads [0x10, 0x8E, 0x12, 0x34] (.ldy (.imm 0x1234)) &&
    reads [0xCE, 0xC8, 0x00] (.ldu (.imm 0xC800)) &&
    reads [0x10, 0xCE, 0xCB, 0xEA] (.lds (.imm 0xCBEA)) &&
    reads [0x97, 0x80] (.sta (.dir 0x80)) &&
    reads [0xE7, 0x84] (.stb (.idx (.zero .x false))) &&
    reads [0xED, 0x81] (.std (.idx (.inc2 .x false))) &&
    reads [0xBF, 0xC8, 0x80] (.stx (.ext 0xC880)) &&
    reads [0x10, 0x9F, 0x90] (.sty (.dir 0x90)) &&
    reads [0xEF, 0x84] (.stu (.idx (.zero .x false))) &&
    reads [0x10, 0xFF, 0xC8, 0xA0] (.sts (.ext 0xC8A0)) &&
    reads [0x30, 0x1F] (.leax (.off5 .x 0x1F)) &&
    reads [0x31, 0x21] (.leay (.off5 .y 0x01)) &&
    reads [0x33, 0x41] (.leau (.off5 .u 0x01)) &&
    reads [0x32, 0x7E] (.leas (.off5 .s 0x1E))) = true := by
  decide +kernel

/-- spec/42_arithmetic.md. -/
theorem test_decode_arithmetic_1 :
    (reads [0x0F, 0x80] (.clr (.dir 0x80)) &&
    reads [0x4F] (.clra) &&
    reads [0x5F] (.clrb) &&
    reads [0x9B, 0x50] (.adda (.mem (.dir 0x50))) &&
    reads [0xCB, 0x08] (.addb (.imm 0x08)) &&
    reads [0xC3, 0x00, 0x01] (.addd (.imm 0x0001)) &&
    reads [0x89, 0x00] (.adca (.imm 0x00)) &&
    reads [0xC9, 0x00] (.adcb (.imm 0x00)) &&
    reads [0x80, 0x20] (.suba (.imm 0x20)) &&
    reads [0xC0, 0x01] (.subb (.imm 0x01)) &&
    reads [0x83, 0x00, 0x01] (.subd (.imm 0x0001)) &&
    reads [0x81, 0x05] (.cmpa (.imm 0x05)) &&
    reads [0xC1, 0x01] (.cmpb (.imm 0x01))) = true := by
  decide +kernel

/-- spec/42_arithmetic.md. -/
theorem test_decode_arithmetic_2 :
    (reads [0x10, 0x83, 0x00, 0x01] (.cmpd (.imm 0x0001)) &&
    reads [0x8C, 0x12, 0x34] (.cmpx (.imm 0x1234)) &&
    reads [0x10, 0x8C, 0xFF, 0xFF] (.cmpy (.imm 0xFFFF)) &&
    reads [0x11, 0x83, 0xC7, 0xFF] (.cmpu (.imm 0xC7FF)) &&
    reads [0x11, 0x8C, 0x80, 0x00] (.cmps (.imm 0x8000)) &&
    reads [0x00, 0x10] (.neg (.dir 0x10)) &&
    reads [0x40] (.nega) &&
    reads [0x50] (.negb) &&
    reads [0x0C, 0x20] (.inc (.dir 0x20)) &&
    reads [0x4C] (.inca) &&
    reads [0x5C] (.incb) &&
    reads [0x0A, 0x30] (.dec (.dir 0x30)) &&
    reads [0x4A] (.deca) &&
    reads [0x5A] (.decb)) = true := by
  decide +kernel

/-- spec/43_shift_logic.md. -/
theorem test_decode_shifts_and_logic :
    (reads [0x07, 0x40] (.asr (.dir 0x40)) &&
    reads [0x47] (.asra) &&
    reads [0x57] (.asrb) &&
    reads [0x04, 0x41] (.lsr (.dir 0x41)) &&
    reads [0x44] (.lsra) &&
    reads [0x54] (.lsrb) &&
    reads [0x08, 0x42] (.asl (.dir 0x42)) &&
    reads [0x48] (.asla) &&
    reads [0x58] (.aslb) &&
    reads [0x03, 0x43] (.com (.dir 0x43)) &&
    reads [0x43] (.coma) &&
    reads [0x53] (.comb) &&
    reads [0x8A, 0xF0] (.ora (.imm 0xF0)) &&
    reads [0xCA, 0x00] (.orb (.imm 0x00)) &&
    reads [0x84, 0x0F] (.anda (.imm 0x0F)) &&
    reads [0xC4, 0x80] (.andb (.imm 0x80)) &&
    reads [0x85, 0x80] (.bita (.imm 0x80)) &&
    reads [0xC5, 0x02] (.bitb (.imm 0x02)) &&
    reads [0x1A, 0x50] (.orcc 0x50) &&
    reads [0x1C, 0xAF] (.andcc 0xAF) &&
    reads [0x0D, 0x44] (.tst (.dir 0x44)) &&
    reads [0x4D] (.tsta) &&
    reads [0x5D] (.tstb)) = true := by
  decide +kernel

/-- spec/44_control.md. -/
theorem test_decode_control_transfer_1 :
    (reads [0x7E, 0xF1, 0x00] (.jmp (.ext 0xF100)) &&
    reads [0xBD, 0xF1, 0x00] (.jsr (.ext 0xF100)) &&
    reads [0x8D, 0x10] (.bsr 0x10) &&
    reads [0x17, 0x01, 0x00] (.lbsr 0x0100) &&
    reads [0x39] (.rts) &&
    reads [0x12] (.nop) &&
    reads [0x20, 0x10] (.bra 0x10) &&
    reads [0x21, 0x10] (.brn 0x10) &&
    reads [0x22, 0x10] (.bhi 0x10) &&
    reads [0x23, 0x10] (.bls 0x10) &&
    reads [0x24, 0x10] (.bcc 0x10) &&
    reads [0x25, 0x10] (.bcs 0x10) &&
    reads [0x26, 0x10] (.bne 0x10) &&
    reads [0x27, 0x10] (.beq 0x10) &&
    reads [0x28, 0x10] (.bvc 0x10) &&
    reads [0x29, 0x10] (.bvs 0x10) &&
    reads [0x2A, 0x10] (.bpl 0x10) &&
    reads [0x2B, 0x10] (.bmi 0x10) &&
    reads [0x2C, 0x10] (.bge 0x10)) = true := by
  decide +kernel

/-- spec/44_control.md. -/
theorem test_decode_control_transfer_2 :
    (reads [0x2D, 0x10] (.blt 0x10) &&
    reads [0x2E, 0x10] (.bgt 0x10) &&
    reads [0x2F, 0x10] (.ble 0x10) &&
    reads [0x16, 0x01, 0x00] (.lbra 0x0100) &&
    reads [0x10, 0x21, 0x01, 0x00] (.lbrn 0x0100) &&
    reads [0x10, 0x22, 0x01, 0x00] (.lbhi 0x0100) &&
    reads [0x10, 0x23, 0x01, 0x00] (.lbls 0x0100) &&
    reads [0x10, 0x24, 0x01, 0x00] (.lbcc 0x0100) &&
    reads [0x10, 0x25, 0x01, 0x00] (.lbcs 0x0100) &&
    reads [0x10, 0x26, 0x01, 0x00] (.lbne 0x0100) &&
    reads [0x10, 0x27, 0x01, 0x00] (.lbeq 0x0100) &&
    reads [0x10, 0x28, 0x01, 0x00] (.lbvc 0x0100) &&
    reads [0x10, 0x29, 0x01, 0x00] (.lbvs 0x0100) &&
    reads [0x10, 0x2A, 0x01, 0x00] (.lbpl 0x0100) &&
    reads [0x10, 0x2B, 0x01, 0x00] (.lbmi 0x0100) &&
    reads [0x10, 0x2C, 0x01, 0x00] (.lbge 0x0100) &&
    reads [0x10, 0x2D, 0x01, 0x00] (.lblt 0x0100) &&
    reads [0x10, 0x2E, 0x01, 0x00] (.lbgt 0x0100) &&
    reads [0x10, 0x2F, 0x01, 0x00] (.lble 0x0100)) = true := by
  decide +kernel

/-- spec/45_stack_transfer.md. -/
theorem test_decode_stack_and_transfer :
    (reads [0x34, 0x16] (.pshs 0x16) &&
    reads [0x35, 0x16] (.puls 0x16) &&
    reads [0x36, 0x48] (.pshu 0x48) &&
    reads [0x37, 0x48] (.pulu 0x48) &&
    reads [0x1E, 0x89] (.exg (.r8 .a) (.r8 .b)) &&
    reads [0x1F, 0x8B] (.tfr (.r8 .a) (.r8 .dp))) = true := by
  decide +kernel

/-- spec/46_extension.md. -/
theorem test_decode_the_extension_set :
    (reads [0x88, 0x0F] (.eora (.imm 0x0F)) &&
    reads [0xC8, 0x55] (.eorb (.imm 0x55)) &&
    reads [0x82, 0x0F] (.sbca (.imm 0x0F)) &&
    reads [0xC2, 0x00] (.sbcb (.imm 0x00)) &&
    reads [0x09, 0x50] (.rol (.dir 0x50)) &&
    reads [0x49] (.rola) &&
    reads [0x59] (.rolb) &&
    reads [0x06, 0x51] (.ror (.dir 0x51)) &&
    reads [0x46] (.rora) &&
    reads [0x56] (.rorb) &&
    reads [0x3D] (.mul) &&
    reads [0x1D] (.sex) &&
    reads [0x3A] (.abx) &&
    reads [0x19] (.daa) &&
    reads [0x3F] (.swi) &&
    reads [0x10, 0x3F] (.swi2) &&
    reads [0x11, 0x3F] (.swi3) &&
    reads [0x3B] (.rti) &&
    reads [0x3C, 0xEF] (.cwai 0xEF) &&
    reads [0x13] (.sync)) = true := by
  decide +kernel

/-! ## The worked examples of spec/41_load_store.md -/

/-- R171. -/
theorem test_lda :
    ran { rig [0xA6, 0x80] [(0x1000, 0xAA)] with x := 0x1000 } (fun t => t.a == 0xAA && t.x == 0x1001 &&
      t.cc == 0x08) = true := by decide +kernel
/-- R172. -/
theorem test_ldb :
    ran { rig [0xC6, 0x00] [] with a := 0x12, cc := 0x02 } (fun t => t.b == 0x00 && t.a == 0x12 &&
      t.cc == 0x04 && t.cyc == 2) = true := by decide +kernel
/-- R173. -/
theorem test_ldd :
    ran (rig [0xCC, 0x80, 0x01] []) (fun t => t.a == 0x80 && t.b == 0x01 && t.cc == 0x08 &&
      t.cyc == 3) = true := by decide +kernel
/-- R174. -/
theorem test_ldx :
    ran (rig [0x8E, 0x00, 0x00] []) (fun t => t.x == 0x0000 && t.cc == 0x04 &&
      t.cyc == 3) = true := by decide +kernel
/-- R175. -/
theorem test_ldy :
    ran (rig [0x10, 0x8E, 0x12, 0x34] []) (fun t => t.y == 0x1234 && t.cc == 0x00 &&
      t.cyc == 4) = true := by decide +kernel
/-- R176. -/
theorem test_ldu :
    ran (rig [0xCE, 0xC8, 0x00] []) (fun t => t.u == 0xC800 && t.cc == 0x08 &&
      t.cyc == 3) = true := by decide +kernel
/-- R177. -/
theorem test_lds :
    ran (rig [0x10, 0xCE, 0xCB, 0xEA] []) (fun t => t.sp == 0xCBEA && t.cc == 0x08 &&
      t.cyc == 4) = true := by decide +kernel
/-- R178. -/
theorem test_sta :
    ran { rig [0x97, 0x80] [] with dp := 0xC8, a := 0x00 } (fun t => t.byteAt 0xC880 == 0x00 &&
      t.cc == 0x04 && t.cyc == 4) = true := by decide +kernel
/-- R179. -/
theorem test_stb :
    ran { rig [0xE7, 0x84] [] with b := 0xFF, x := 0xC900 } (fun t => t.byteAt 0xC900 == 0xFF &&
      t.cc == 0x08 && t.cyc == 4) = true := by decide +kernel
/-- R180. -/
theorem test_std :
    ran { rig [0xED, 0x81] [] with x := 0xC880, a := 0x12, b := 0x34 } (fun t => t.x == 0xC882 &&
      t.byteAt 0xC880 == 0x12 && t.byteAt 0xC881 == 0x34 && t.cc == 0x00 &&
      t.cyc == 8) = true := by decide +kernel
/-- R181. -/
theorem test_stx :
    ran { rig [0xBF, 0xC8, 0x80] [] with x := 0x8000 } (fun t => t.byteAt 0xC880 == 0x80 &&
      t.byteAt 0xC881 == 0x00 && t.cc == 0x08 && t.cyc == 6) = true := by decide +kernel
/-- R182. -/
theorem test_sty :
    ran { rig [0x10, 0x9F, 0x90] [] with dp := 0xC8, y := 0x0000 } (fun t => t.byteAt 0xC890 == 0x00 &&
      t.byteAt 0xC891 == 0x00 && t.cc == 0x04 && t.cyc == 6) = true := by decide +kernel
/-- R183. -/
theorem test_stu :
    ran { rig [0xEF, 0x84] [] with u := 0xC800, x := 0xC900 } (fun t => t.byteAt 0xC900 == 0xC8 &&
      t.byteAt 0xC901 == 0x00 && t.cc == 0x08 && t.cyc == 5) = true := by decide +kernel
/-- R184. -/
theorem test_sts :
    ran { rig [0x10, 0xFF, 0xC8, 0xA0] [] with sp := 0xCBEA } (fun t => t.byteAt 0xC8A0 == 0xCB &&
      t.byteAt 0xC8A1 == 0xEA && t.cc == 0x08 && t.cyc == 7) = true := by decide +kernel
/-- R185. -/
theorem test_leax :
    ran { rig [0x30, 0x1F] [] with x := 0x0001 } (fun t => t.x == 0x0000 && t.cc == 0x04 &&
      t.cyc == 5) = true := by decide +kernel
/-- R186. -/
theorem test_leay :
    ran { rig [0x31, 0x21] [] with y := 0x1000 } (fun t => t.y == 0x1001 && t.cc == 0x00 &&
      t.cyc == 5) = true := by decide +kernel
/-- R187. -/
theorem test_leau :
    ran { rig [0x33, 0x41] [] with u := 0xFFFF } (fun t => t.u == 0x0000 && t.cc == 0x00 &&
      t.cyc == 5) = true := by decide +kernel
/-- R188. -/
theorem test_leas :
    ran { rig [0x32, 0x7E] [] with sp := 0xCBEA } (fun t => t.sp == 0xCBE8 && t.cc == 0x00 &&
      t.cyc == 5) = true := by decide +kernel

/-! ## The worked examples of spec/42_arithmetic.md -/

/-- R205. -/
theorem test_clr :
    ran { rig [0x0F, 0x80] [(0xC880, 0x5A)] with dp := 0xC8 } (fun t => t.byteAt 0xC880 == 0x00 &&
      t.cc == 0x04 && t.cyc == 6) = true := by decide +kernel
/-- R206. -/
theorem test_clra :
    ran { rig [0x4F] [] with a := 0x80, b := 0x11, cc := 0x0B } (fun t => t.a == 0x00 && t.b == 0x11 &&
      t.cc == 0x04 && t.cyc == 2) = true := by decide +kernel
/-- R207. -/
theorem test_clrb :
    ran { rig [0x5F] [] with b := 0x7F, cc := 0x20 } (fun t => t.b == 0x00 && t.cc == 0x24 &&
      t.cyc == 2) = true := by decide +kernel
/-- R208. -/
theorem test_adda :
    ran { rig [0x9B, 0x50] [(0x0050, 0x05)] with dp := 0x00, a := 0x10 } (fun t => t.a == 0x15 &&
      t.cc == 0x00) = true := by decide +kernel
/-- R209. -/
theorem test_addb :
    ran { rig [0xCB, 0x08] [] with b := 0x08 } (fun t => t.b == 0x10 && t.cc == 0x20 &&
      t.cyc == 2) = true := by decide +kernel
/-- R210. -/
theorem test_addd :
    ran { rig [0xC3, 0x00, 0x01] [] with a := 0xFF, b := 0xFF, cc := 0x20 } (fun t => t.a == 0x00 &&
      t.b == 0x00 && t.cc == 0x25 && t.cyc == 4) = true := by decide +kernel
/-- R211. -/
theorem test_adca :
    ran { rig [0x89, 0x00] [] with a := 0x0F, cc := 0x01 } (fun t => t.a == 0x10 && t.cc == 0x20 &&
      t.cyc == 2) = true := by decide +kernel
/-- R212. -/
theorem test_adcb :
    ran { rig [0xC9, 0x00] [] with b := 0xFF, cc := 0x01 } (fun t => t.b == 0x00 && t.cc == 0x25 &&
      t.cyc == 2) = true := by decide +kernel
/-- R213. -/
theorem test_suba :
    ran { rig [0x80, 0x20] [] with a := 0x10 } (fun t => t.a == 0xF0 && t.cc == 0x09 &&
      t.cyc == 2) = true := by decide +kernel
/-- R214. -/
theorem test_subb :
    ran { rig [0xC0, 0x01] [] with b := 0x80 } (fun t => t.b == 0x7F && t.cc == 0x02 &&
      t.cyc == 2) = true := by decide +kernel
/-- R215. -/
theorem test_subd :
    ran { rig [0x83, 0x00, 0x01] [] with a := 0x00, b := 0x00 } (fun t => t.a == 0xFF && t.b == 0xFF &&
      t.cc == 0x09 && t.cyc == 4) = true := by decide +kernel
/-- R216. -/
theorem test_cmpa :
    ran { rig [0x81, 0x05] [] with a := 0x05 } (fun t => t.a == 0x05 && t.cc == 0x04 &&
      t.cyc == 2) = true := by decide +kernel
/-- R217. -/
theorem test_cmpb :
    ran { rig [0xC1, 0x01] [] with b := 0x00 } (fun t => t.cc == 0x09 && t.cyc == 2) = true := by decide +kernel
/-- R218. -/
theorem test_cmpd :
    ran { rig [0x10, 0x83, 0x00, 0x01] [] with a := 0x80, b := 0x00 } (fun t => t.cc == 0x02 &&
      t.cyc == 5) = true := by decide +kernel
/-- R219. -/
theorem test_cmpx :
    ran { rig [0x8C, 0x12, 0x34] [] with x := 0x1234 } (fun t => t.cc == 0x04 &&
      t.cyc == 4) = true := by decide +kernel
/-- R220. -/
theorem test_cmpy :
    ran { rig [0x10, 0x8C, 0xFF, 0xFF] [] with y := 0x0000 } (fun t => t.cc == 0x01 &&
      t.cyc == 5) = true := by decide +kernel
/-- R221. -/
theorem test_cmpu :
    ran { rig [0x11, 0x83, 0xC7, 0xFF] [] with u := 0xC800 } (fun t => t.cc == 0x00 &&
      t.cyc == 5) = true := by decide +kernel
/-- R222. -/
theorem test_cmps :
    ran { rig [0x11, 0x8C, 0x80, 0x00] [] with sp := 0x7FFF } (fun t => t.cc == 0x0B &&
      t.cyc == 5) = true := by decide +kernel
/-- R223. -/
theorem test_neg :
    ran { rig [0x00, 0x10] [(0xC810, 0x80)] with dp := 0xC8 } (fun t => t.byteAt 0xC810 == 0x80 &&
      t.cc == 0x0B && t.cyc == 6) = true := by decide +kernel
/-- R224. -/
theorem test_nega :
    ran { rig [0x40] [] with a := 0x00 } (fun t => t.a == 0x00 && t.cc == 0x04 &&
      t.cyc == 2) = true := by decide +kernel
/-- R225. -/
theorem test_negb :
    ran { rig [0x50] [] with b := 0x01 } (fun t => t.b == 0xFF && t.cc == 0x09 &&
      t.cyc == 2) = true := by decide +kernel
/-- R226. -/
theorem test_inc :
    ran { rig [0x0C, 0x20] [(0xC820, 0x7F)] with dp := 0xC8 } (fun t => t.byteAt 0xC820 == 0x80 &&
      t.cc == 0x08 && t.cyc == 6) = true := by decide +kernel
/-- R227. -/
theorem test_inca :
    ran { rig [0x4C] [] with a := 0xFF, cc := 0x01 } (fun t => t.a == 0x00 && t.cc == 0x07 &&
      t.cyc == 2) = true := by decide +kernel
/-- R228. -/
theorem test_incb :
    ran { rig [0x5C] [] with b := 0x00 } (fun t => t.b == 0x01 && t.cc == 0x00 &&
      t.cyc == 2) = true := by decide +kernel
/-- R229. -/
theorem test_dec :
    ran { rig [0x0A, 0x30] [(0xC830, 0x80)] with dp := 0xC8 } (fun t => t.byteAt 0xC830 == 0x7F &&
      t.cc == 0x02 && t.cyc == 6) = true := by decide +kernel
/-- R230. -/
theorem test_deca :
    ran { rig [0x4A] [] with a := 0x00 } (fun t => t.a == 0xFF && t.cc == 0x08 &&
      t.cyc == 2) = true := by decide +kernel
/-- R231. -/
theorem test_decb :
    ran { rig [0x5A] [] with b := 0x01 } (fun t => t.b == 0x00 && t.cc == 0x04 &&
      t.cyc == 2) = true := by decide +kernel

/-! ## The worked examples of spec/43_shift_logic.md -/

/-- R250. -/
theorem test_asr :
    ran { rig [0x07, 0x40] [(0xC840, 0x81)] with dp := 0xC8 } (fun t => t.byteAt 0xC840 == 0xC0 &&
      t.cc == 0x09 && t.cyc == 6) = true := by decide +kernel
/-- R251. -/
theorem test_asra :
    ran { rig [0x47] [] with a := 0x01 } (fun t => t.a == 0x00 && t.cc == 0x05 &&
      t.cyc == 2) = true := by decide +kernel
/-- R252. -/
theorem test_asrb :
    ran { rig [0x57] [] with b := 0x80 } (fun t => t.b == 0xC0 && t.cc == 0x08 &&
      t.cyc == 2) = true := by decide +kernel
/-- R253. -/
theorem test_lsr :
    ran { rig [0x04, 0x41] [(0xC841, 0x81)] with dp := 0xC8 } (fun t => t.byteAt 0xC841 == 0x40 &&
      t.cc == 0x01 && t.cyc == 6) = true := by decide +kernel
/-- R254. -/
theorem test_lsra :
    ran { rig [0x44] [] with a := 0x01 } (fun t => t.a == 0x00 && t.cc == 0x05 &&
      t.cyc == 2) = true := by decide +kernel
/-- R255. -/
theorem test_lsrb :
    ran { rig [0x54] [] with b := 0x80 } (fun t => t.b == 0x40 && t.cc == 0x00 &&
      t.cyc == 2) = true := by decide +kernel
/-- R256. -/
theorem test_asl :
    ran { rig [0x08, 0x42] [(0xC842, 0x40)] with dp := 0xC8 } (fun t => t.byteAt 0xC842 == 0x80 &&
      t.cc == 0x0A && t.cyc == 6) = true := by decide +kernel
/-- R257. -/
theorem test_asla :
    ran { rig [0x48] [] with a := 0x80 } (fun t => t.a == 0x00 && t.cc == 0x07 &&
      t.cyc == 2) = true := by decide +kernel
/-- R258. -/
theorem test_aslb :
    ran { rig [0x58] [] with b := 0xC0 } (fun t => t.b == 0x80 && t.cc == 0x09 &&
      t.cyc == 2) = true := by decide +kernel
/-- R259. -/
theorem test_com :
    ran { rig [0x03, 0x43] [(0xC843, 0x00)] with dp := 0xC8 } (fun t => t.byteAt 0xC843 == 0xFF &&
      t.cc == 0x09 && t.cyc == 6) = true := by decide +kernel
/-- R260. -/
theorem test_coma :
    ran { rig [0x43] [] with a := 0xFF } (fun t => t.a == 0x00 && t.cc == 0x05 &&
      t.cyc == 2) = true := by decide +kernel
/-- R261. -/
theorem test_comb :
    ran { rig [0x53] [] with b := 0x55 } (fun t => t.b == 0xAA && t.cc == 0x09 &&
      t.cyc == 2) = true := by decide +kernel
/-- R262. -/
theorem test_ora :
    ran { rig [0x8A, 0xF0] [] with a := 0x0F } (fun t => t.a == 0xFF && t.cc == 0x08 &&
      t.cyc == 2) = true := by decide +kernel
/-- R263. -/
theorem test_orb :
    ran { rig [0xCA, 0x00] [] with b := 0x00 } (fun t => t.b == 0x00 && t.cc == 0x04 &&
      t.cyc == 2) = true := by decide +kernel
/-- R264. -/
theorem test_anda :
    ran { rig [0x84, 0x0F] [] with a := 0xF0 } (fun t => t.a == 0x00 && t.cc == 0x04 &&
      t.cyc == 2) = true := by decide +kernel
/-- R265. -/
theorem test_andb :
    ran { rig [0xC4, 0x80] [] with b := 0xFF } (fun t => t.b == 0x80 && t.cc == 0x08 &&
      t.cyc == 2) = true := by decide +kernel
/-- R266. -/
theorem test_bita :
    ran { rig [0x85, 0x80] [] with a := 0x80 } (fun t => t.a == 0x80 && t.cc == 0x08 &&
      t.cyc == 2) = true := by decide +kernel
/-- R267. -/
theorem test_bitb :
    ran { rig [0xC5, 0x02] [] with b := 0x01 } (fun t => t.cc == 0x04 && t.cyc == 2) = true := by decide +kernel
/-- R268. -/
theorem test_orcc :
    ran (rig [0x1A, 0x50] []) (fun t => t.cc == 0x50 && t.cyc == 3) = true := by decide +kernel
/-- R269. -/
theorem test_andcc :
    ran { rig [0x1C, 0xAF] [] with cc := 0xFF } (fun t => t.cc == 0xAF &&
      t.cyc == 3) = true := by decide +kernel
/-- R270. -/
theorem test_tst :
    ran { rig [0x0D, 0x44] [(0xC844, 0x00)] with dp := 0xC8 } (fun t => t.cc == 0x04 &&
      t.cyc == 6) = true := by decide +kernel
/-- R271. -/
theorem test_tsta :
    ran { rig [0x4D] [] with a := 0x80, cc := 0x02 } (fun t => t.cc == 0x08 &&
      t.cyc == 2) = true := by decide +kernel
/-- R272. -/
theorem test_tstb :
    ran { rig [0x5D] [] with b := 0x00 } (fun t => t.cc == 0x04 && t.cyc == 2) = true := by decide +kernel

/-! ## The worked examples of spec/44_control.md -/

/-- R300. -/
theorem test_jmp :
    (ran (rig [0x7E, 0xF1, 0x00] []) (fun t => t.pc == 0xF100 && t.cyc == 4) &&
    ran { rig [0x6E, 0x94] [(0xC880, 0xF2)] with x := 0xC880 } (fun t => t.pc == 0xF200 &&
      t.cyc == 6)) = true := by decide +kernel
/-- R301. -/
theorem test_jsr :
    ran { rig [0xBD, 0xF1, 0x00] [] with sp := 0xCBEA } (fun t => t.sp == 0xCBE8 && t.pc == 0xF100 &&
      t.byteAt 0xCBE8 == 0xF0 && t.byteAt 0xCBE9 == 0x03 && t.cc == 0x00 &&
      t.cyc == 8) = true := by decide +kernel
/-- R302. -/
theorem test_bsr :
    ran { rig [0x8D, 0x10] [] with sp := 0xCBEA } (fun t => t.sp == 0xCBE8 && t.pc == 0xF012 &&
      t.byteAt 0xCBE8 == 0xF0 && t.byteAt 0xCBE9 == 0x02 && t.cc == 0x00 &&
      t.cyc == 7) = true := by decide +kernel
/-- R303. -/
theorem test_lbsr :
    ran { rig [0x17, 0x01, 0x00] [] with sp := 0xCBEA } (fun t => t.sp == 0xCBE8 && t.pc == 0xF103 &&
      t.byteAt 0xCBE8 == 0xF0 && t.byteAt 0xCBE9 == 0x03 && t.cc == 0x00 &&
      t.cyc == 9) = true := by decide +kernel
/-- R304. -/
theorem test_rts :
    ran { rig [0x39] [(0xCBE8, 0xF0), (0xCBE9, 0x03)] with sp := 0xCBE8 } (fun t => t.pc == 0xF003 &&
      t.sp == 0xCBEA && t.cyc == 5) = true := by decide +kernel
/-- R305. -/
theorem test_nop :
    ran (rig [0x12] []) (fun t => t.pc == 0xF001 && t.cc == 0x00 && t.cyc == 2) = true := by decide +kernel
/-- R309. -/
theorem test_bra :
    ran (rig [0x20, 0x10] []) (fun t => t.pc == 0xF012 && t.cc == 0x00 &&
      t.cyc == 4) = true := by decide +kernel
/-- R310. -/
theorem test_brn :
    ran (rig [0x21, 0x10] []) (fun t => t.pc == 0xF002 && t.cc == 0x00 &&
      t.cyc == 3) = true := by decide +kernel
/-- R311. -/
theorem test_bhi :
    (ran (rig [0x22, 0x10] []) (fun t => t.pc == 0xF012 && t.cc == 0x00 && t.cyc == 4) &&
    ran { rig [0x22, 0x10] [] with cc := 0x01 } (fun t => t.pc == 0xF002 && t.cc == 0x01 &&
      t.cyc == 3)) = true := by decide +kernel
/-- R312. -/
theorem test_bls :
    (ran { rig [0x23, 0x10] [] with cc := 0x01 } (fun t => t.pc == 0xF012 && t.cc == 0x01 && t.cyc == 4) &&
    ran (rig [0x23, 0x10] []) (fun t => t.pc == 0xF002 && t.cc == 0x00 &&
      t.cyc == 3)) = true := by decide +kernel
/-- R313. -/
theorem test_bcc :
    (ran (rig [0x24, 0x10] []) (fun t => t.pc == 0xF012 && t.cc == 0x00 && t.cyc == 4) &&
    ran { rig [0x24, 0x10] [] with cc := 0x01 } (fun t => t.pc == 0xF002 && t.cc == 0x01 &&
      t.cyc == 3)) = true := by decide +kernel
/-- R314. -/
theorem test_bcs :
    (ran { rig [0x25, 0x10] [] with cc := 0x01 } (fun t => t.pc == 0xF012 && t.cc == 0x01 && t.cyc == 4) &&
    ran (rig [0x25, 0x10] []) (fun t => t.pc == 0xF002 && t.cc == 0x00 &&
      t.cyc == 3)) = true := by decide +kernel
/-- R315. -/
theorem test_bne :
    (ran (rig [0x26, 0x10] []) (fun t => t.pc == 0xF012 && t.cc == 0x00 && t.cyc == 4) &&
    ran { rig [0x26, 0x10] [] with cc := 0x04 } (fun t => t.pc == 0xF002 && t.cc == 0x04 &&
      t.cyc == 3)) = true := by decide +kernel
/-- R316. -/
theorem test_beq :
    (ran { rig [0x27, 0x10] [] with cc := 0x04 } (fun t => t.pc == 0xF012 && t.cc == 0x04 && t.cyc == 4) &&
    ran (rig [0x27, 0x10] []) (fun t => t.pc == 0xF002 && t.cc == 0x00 &&
      t.cyc == 3)) = true := by decide +kernel
/-- R317. -/
theorem test_bvc :
    (ran (rig [0x28, 0x10] []) (fun t => t.pc == 0xF012 && t.cc == 0x00 && t.cyc == 4) &&
    ran { rig [0x28, 0x10] [] with cc := 0x02 } (fun t => t.pc == 0xF002 && t.cc == 0x02 &&
      t.cyc == 3)) = true := by decide +kernel
/-- R318. -/
theorem test_bvs :
    (ran { rig [0x29, 0x10] [] with cc := 0x02 } (fun t => t.pc == 0xF012 && t.cc == 0x02 && t.cyc == 4) &&
    ran (rig [0x29, 0x10] []) (fun t => t.pc == 0xF002 && t.cc == 0x00 &&
      t.cyc == 3)) = true := by decide +kernel
/-- R319. -/
theorem test_bpl :
    (ran (rig [0x2A, 0x10] []) (fun t => t.pc == 0xF012 && t.cc == 0x00 && t.cyc == 4) &&
    ran { rig [0x2A, 0x10] [] with cc := 0x08 } (fun t => t.pc == 0xF002 && t.cc == 0x08 &&
      t.cyc == 3)) = true := by decide +kernel
/-- R320. -/
theorem test_bmi :
    (ran { rig [0x2B, 0x10] [] with cc := 0x08 } (fun t => t.pc == 0xF012 && t.cc == 0x08 && t.cyc == 4) &&
    ran (rig [0x2B, 0x10] []) (fun t => t.pc == 0xF002 && t.cc == 0x00 &&
      t.cyc == 3)) = true := by decide +kernel
/-- R321. -/
theorem test_bge :
    (ran (rig [0x2C, 0x10] []) (fun t => t.pc == 0xF012 && t.cc == 0x00 && t.cyc == 4) &&
    ran { rig [0x2C, 0x10] [] with cc := 0x02 } (fun t => t.pc == 0xF002 && t.cc == 0x02 &&
      t.cyc == 3)) = true := by decide +kernel
/-- R322. -/
theorem test_blt :
    (ran { rig [0x2D, 0x10] [] with cc := 0x02 } (fun t => t.pc == 0xF012 && t.cc == 0x02 && t.cyc == 4) &&
    ran (rig [0x2D, 0x10] []) (fun t => t.pc == 0xF002 && t.cc == 0x00 &&
      t.cyc == 3)) = true := by decide +kernel
/-- R323. -/
theorem test_bgt :
    (ran (rig [0x2E, 0x10] []) (fun t => t.pc == 0xF012 && t.cc == 0x00 && t.cyc == 4) &&
    ran { rig [0x2E, 0x10] [] with cc := 0x02 } (fun t => t.pc == 0xF002 && t.cc == 0x02 &&
      t.cyc == 3)) = true := by decide +kernel
/-- R324. -/
theorem test_ble :
    (ran { rig [0x2F, 0x10] [] with cc := 0x02 } (fun t => t.pc == 0xF012 && t.cc == 0x02 && t.cyc == 4) &&
    ran (rig [0x2F, 0x10] []) (fun t => t.pc == 0xF002 && t.cc == 0x00 &&
      t.cyc == 3)) = true := by decide +kernel
/-- R325. -/
theorem test_lbra :
    ran (rig [0x16, 0x01, 0x00] []) (fun t => t.pc == 0xF103 && t.cc == 0x00 &&
      t.cyc == 6) = true := by decide +kernel
/-- R326. -/
theorem test_lbrn :
    ran (rig [0x10, 0x21, 0x01, 0x00] []) (fun t => t.pc == 0xF004 && t.cc == 0x00 &&
      t.cyc == 5) = true := by decide +kernel
/-- R327. -/
theorem test_lbhi :
    (ran (rig [0x10, 0x22, 0x01, 0x00] []) (fun t => t.pc == 0xF104 && t.cc == 0x00 && t.cyc == 6) &&
    ran { rig [0x10, 0x22, 0x01, 0x00] [] with cc := 0x01 } (fun t => t.pc == 0xF004 && t.cc == 0x01 &&
      t.cyc == 5)) = true := by decide +kernel
/-- R328. -/
theorem test_lbls :
    (ran { rig [0x10, 0x23, 0x01, 0x00] [] with cc := 0x01 } (fun t => t.pc == 0xF104 && t.cc == 0x01 &&
      t.cyc == 6) &&
    ran (rig [0x10, 0x23, 0x01, 0x00] []) (fun t => t.pc == 0xF004 && t.cc == 0x00 &&
      t.cyc == 5)) = true := by decide +kernel
/-- R329. -/
theorem test_lbcc :
    (ran (rig [0x10, 0x24, 0x01, 0x00] []) (fun t => t.pc == 0xF104 && t.cc == 0x00 && t.cyc == 6) &&
    ran { rig [0x10, 0x24, 0x01, 0x00] [] with cc := 0x01 } (fun t => t.pc == 0xF004 && t.cc == 0x01 &&
      t.cyc == 5)) = true := by decide +kernel
/-- R330. -/
theorem test_lbcs :
    (ran { rig [0x10, 0x25, 0x01, 0x00] [] with cc := 0x01 } (fun t => t.pc == 0xF104 && t.cc == 0x01 &&
      t.cyc == 6) &&
    ran (rig [0x10, 0x25, 0x01, 0x00] []) (fun t => t.pc == 0xF004 && t.cc == 0x00 &&
      t.cyc == 5)) = true := by decide +kernel
/-- R331. -/
theorem test_lbne :
    (ran (rig [0x10, 0x26, 0x01, 0x00] []) (fun t => t.pc == 0xF104 && t.cc == 0x00 && t.cyc == 6) &&
    ran { rig [0x10, 0x26, 0x01, 0x00] [] with cc := 0x04 } (fun t => t.pc == 0xF004 && t.cc == 0x04 &&
      t.cyc == 5)) = true := by decide +kernel
/-- R332. -/
theorem test_lbeq :
    (ran { rig [0x10, 0x27, 0x01, 0x00] [] with cc := 0x04 } (fun t => t.pc == 0xF104 && t.cc == 0x04 &&
      t.cyc == 6) &&
    ran (rig [0x10, 0x27, 0x01, 0x00] []) (fun t => t.pc == 0xF004 && t.cc == 0x00 &&
      t.cyc == 5)) = true := by decide +kernel
/-- R333. -/
theorem test_lbvc :
    (ran (rig [0x10, 0x28, 0x01, 0x00] []) (fun t => t.pc == 0xF104 && t.cc == 0x00 && t.cyc == 6) &&
    ran { rig [0x10, 0x28, 0x01, 0x00] [] with cc := 0x02 } (fun t => t.pc == 0xF004 && t.cc == 0x02 &&
      t.cyc == 5)) = true := by decide +kernel
/-- R334. -/
theorem test_lbvs :
    (ran { rig [0x10, 0x29, 0x01, 0x00] [] with cc := 0x02 } (fun t => t.pc == 0xF104 && t.cc == 0x02 &&
      t.cyc == 6) &&
    ran (rig [0x10, 0x29, 0x01, 0x00] []) (fun t => t.pc == 0xF004 && t.cc == 0x00 &&
      t.cyc == 5)) = true := by decide +kernel
/-- R335. -/
theorem test_lbpl :
    (ran (rig [0x10, 0x2A, 0x01, 0x00] []) (fun t => t.pc == 0xF104 && t.cc == 0x00 && t.cyc == 6) &&
    ran { rig [0x10, 0x2A, 0x01, 0x00] [] with cc := 0x08 } (fun t => t.pc == 0xF004 && t.cc == 0x08 &&
      t.cyc == 5)) = true := by decide +kernel
/-- R336. -/
theorem test_lbmi :
    (ran { rig [0x10, 0x2B, 0x01, 0x00] [] with cc := 0x08 } (fun t => t.pc == 0xF104 && t.cc == 0x08 &&
      t.cyc == 6) &&
    ran (rig [0x10, 0x2B, 0x01, 0x00] []) (fun t => t.pc == 0xF004 && t.cc == 0x00 &&
      t.cyc == 5)) = true := by decide +kernel
/-- R337. -/
theorem test_lbge :
    (ran (rig [0x10, 0x2C, 0x01, 0x00] []) (fun t => t.pc == 0xF104 && t.cc == 0x00 && t.cyc == 6) &&
    ran { rig [0x10, 0x2C, 0x01, 0x00] [] with cc := 0x02 } (fun t => t.pc == 0xF004 && t.cc == 0x02 &&
      t.cyc == 5)) = true := by decide +kernel
/-- R338. -/
theorem test_lblt :
    (ran { rig [0x10, 0x2D, 0x01, 0x00] [] with cc := 0x02 } (fun t => t.pc == 0xF104 && t.cc == 0x02 &&
      t.cyc == 6) &&
    ran (rig [0x10, 0x2D, 0x01, 0x00] []) (fun t => t.pc == 0xF004 && t.cc == 0x00 &&
      t.cyc == 5)) = true := by decide +kernel
/-- R339. -/
theorem test_lbgt :
    (ran (rig [0x10, 0x2E, 0x01, 0x00] []) (fun t => t.pc == 0xF104 && t.cc == 0x00 && t.cyc == 6) &&
    ran { rig [0x10, 0x2E, 0x01, 0x00] [] with cc := 0x02 } (fun t => t.pc == 0xF004 && t.cc == 0x02 &&
      t.cyc == 5)) = true := by decide +kernel
/-- R340. -/
theorem test_lble :
    (ran { rig [0x10, 0x2F, 0x01, 0x00] [] with cc := 0x02 } (fun t => t.pc == 0xF104 && t.cc == 0x02 &&
      t.cyc == 6) &&
    ran (rig [0x10, 0x2F, 0x01, 0x00] []) (fun t => t.pc == 0xF004 && t.cc == 0x00 &&
      t.cyc == 5)) = true := by decide +kernel

/-! ## The worked examples of spec/45_stack_transfer.md -/

/-- R346. -/
theorem test_pshs :
    ran { rig [0x34, 0x16] [] with a := 0x11, b := 0x22, x := 0x3344, sp := 0xC000 }
      (fun t => t.wordAt 0xBFFC == 0x1122 && t.wordAt 0xBFFE == 0x3344 && t.sp == 0xBFFC &&
      t.cyc == 8) = true := by decide +kernel
/-- R347. -/
theorem test_puls :
    ran { rig [0x35, 0x16] [(0xBFFC, 0x11), (0xBFFD, 0x22), (0xBFFE, 0x33), (0xBFFF, 0x44)]
      with sp := 0xBFFC } (fun t => t.a == 0x11 && t.b == 0x22 && t.x == 0x3344 && t.sp == 0xC000 &&
      t.cyc == 8) = true := by decide +kernel
/-- R348. -/
theorem test_pshu :
    ran { rig [0x36, 0x48] [] with u := 0xC900, sp := 0xCBEA, dp := 0xC8 }
      (fun t => t.wordAt 0xC8FE == 0xCBEA && t.byteAt 0xC8FD == 0xC8 && t.u == 0xC8FD &&
      t.cyc == 7) = true := by decide +kernel
/-- R349. -/
theorem test_pulu :
    ran { rig [0x37, 0x48] [(0xC8FD, 0xC8), (0xC8FE, 0xCB), (0xC8FF, 0xEA)] with u := 0xC8FD }
      (fun t => t.dp == 0xC8 && t.sp == 0xCBEA && t.u == 0xC900 && t.cyc == 7) = true := by decide +kernel
/-- R351. -/
theorem test_exg :
    ran { rig [0x1E, 0x89] [] with a := 0x11, b := 0x22 } (fun t => t.a == 0x22 && t.b == 0x11 &&
      t.cc == 0x00 && t.cyc == 8) = true := by decide +kernel
/-- R352. -/
theorem test_tfr :
    ran { rig [0x1F, 0x8B] [] with a := 0xC8 } (fun t => t.dp == 0xC8 && t.cc == 0x00 &&
      t.cyc == 6) = true := by decide +kernel

/-! ## The worked examples of spec/46_extension.md -/

/-- R371. -/
theorem test_eora :
    ran { rigX [0x88, 0x0F] [] with a := 0xFF } (fun t => t.a == 0xF0 && t.cc == 0x08 &&
      t.cyc == 2) = true := by decide +kernel
/-- R372. -/
theorem test_eorb :
    ran { rigX [0xC8, 0x55] [] with b := 0x55 } (fun t => t.b == 0x00 && t.cc == 0x04 &&
      t.cyc == 2) = true := by decide +kernel
/-- R373. -/
theorem test_sbca :
    ran { rigX [0x82, 0x0F] [] with a := 0x10, cc := 0x01 } (fun t => t.a == 0x00 && t.cc == 0x04 &&
      t.cyc == 2) = true := by decide +kernel
/-- R374. -/
theorem test_sbcb :
    ran { rigX [0xC2, 0x00] [] with b := 0x00, cc := 0x01 } (fun t => t.b == 0xFF && t.cc == 0x09 &&
      t.cyc == 2) = true := by decide +kernel
/-- R375. -/
theorem test_rol :
    ran { rigX [0x09, 0x50] [(0xC850, 0x80)] with dp := 0xC8 } (fun t => t.byteAt 0xC850 == 0x00 &&
      t.cc == 0x07 && t.cyc == 6) = true := by decide +kernel
/-- R376. -/
theorem test_rola :
    ran { rigX [0x49] [] with a := 0x40, cc := 0x01 } (fun t => t.a == 0x81 && t.cc == 0x0A &&
      t.cyc == 2) = true := by decide +kernel
/-- R377. -/
theorem test_rolb :
    ran { rigX [0x59] [] with b := 0xFF } (fun t => t.b == 0xFE && t.cc == 0x09 &&
      t.cyc == 2) = true := by decide +kernel
/-- R378. -/
theorem test_ror :
    ran { rigX [0x06, 0x51] [(0xC851, 0x01)] with dp := 0xC8 } (fun t => t.byteAt 0xC851 == 0x00 &&
      t.cc == 0x05 && t.cyc == 6) = true := by decide +kernel
/-- R379. -/
theorem test_rora :
    ran { rigX [0x46] [] with a := 0x00, cc := 0x01 } (fun t => t.a == 0x80 && t.cc == 0x08 &&
      t.cyc == 2) = true := by decide +kernel
/-- R380. -/
theorem test_rorb :
    ran { rigX [0x56] [] with b := 0x03 } (fun t => t.b == 0x01 && t.cc == 0x01 &&
      t.cyc == 2) = true := by decide +kernel
/-- R381. -/
theorem test_mul :
    (ran { rigX [0x3D] [] with a := 0x0C, b := 0x0B } (fun t => t.d == 0x0084 && t.cc == 0x01 && t.cyc == 11) &&
    ran { rigX [0x3D] [] with a := 0xFF, b := 0xFF } (fun t => t.d == 0xFE01 &&
      t.cc == 0x00)) = true := by decide +kernel
/-- R382. -/
theorem test_sex :
    ran { rigX [0x1D] [] with b := 0x80 } (fun t => t.a == 0xFF && t.b == 0x80 && t.cc == 0x08 &&
      t.cyc == 2) = true := by decide +kernel
/-- R383. -/
theorem test_abx :
    ran { rigX [0x3A] [] with x := 0x1000, b := 0xFF } (fun t => t.x == 0x10FF && t.cc == 0x00 &&
      t.cyc == 3) = true := by decide +kernel
/-- R384. -/
theorem test_daa :
    (ran { rigX [0x19] [] with a := 0x11, cc := 0x20 } (fun t => t.a == 0x17 && t.cc == 0x20 && t.cyc == 2) &&
    ran { rigX [0x19] [] with a := 0x9A } (fun t => t.a == 0x00 && t.cc == 0x05)) = true := by decide +kernel
/-- R386. -/
theorem test_swi :
    ran { rigX [0x3F] [(0xFFFA, 0xF1), (0xFFFB, 0x23)] with sp := 0xCBEA }
      (fun t => t.byteAt 0xCBDE == 0x80 && t.wordAt 0xCBE8 == 0xF001 && t.sp == 0xCBDE && t.cc == 0xD0 &&
      t.pc == 0xF123 && t.cyc == 19) = true := by decide +kernel
/-- R387. -/
theorem test_swi2 :
    ran { rigX [0x10, 0x3F] [(0xFFF4, 0xF1), (0xFFF5, 0x23)] with sp := 0xCBEA }
      (fun t => t.byteAt 0xCBDE == 0x80 && t.wordAt 0xCBE8 == 0xF002 && t.cc == 0x80 && t.pc == 0xF123 &&
      t.cyc == 20) = true := by decide +kernel
/-- R388. -/
theorem test_swi3 :
    ran { rigX [0x11, 0x3F] [(0xFFF2, 0xF1), (0xFFF3, 0x23)] with sp := 0xCBEA }
      (fun t => t.wordAt 0xCBE8 == 0xF002 && t.cc == 0x80 && t.pc == 0xF123 &&
      t.cyc == 20) = true := by decide +kernel
/-- R389. -/
theorem test_rti :
    ran { rigX [0x3B] [(0xCBDE, 0x80), (0xCBE8, 0xF0), (0xCBE9, 0x01)] with sp := 0xCBDE }
      (fun t => t.cc == 0x80 && t.u == 0 && t.pc == 0xF001 && t.sp == 0xCBEA &&
      t.cyc == 15) = true := by decide +kernel
/-- R390. -/
theorem test_cwai :
    ran { rigX [0x3C, 0xEF] [] with cc := 0x50, sp := 0xCBEA } (fun t => t.byteAt 0xCBDE == 0xC0 &&
      t.cc == 0xC0 && t.wait == .cwai) = true := by decide +kernel
/-- R391. -/
theorem test_sync :
    ran { rigX [0x13] [] with cc := 0x10 } (fun t => t.wait == .sync && t.pc == 0xF001 &&
      t.cc == 0x10) = true := by decide +kernel

/-- R6, D10: a table with another count for NOP, and for a page 1 opcode of the same byte. -/
theorem test_base_cycles_table :
    let s := { State.reset with
      cfg := { Config.hardware with baseCycles := [⟨.p1, 0x12, 9⟩, ⟨.p0, 0x12, 7⟩] } }
    baseCycles s.cfg .nop = 7 ∧ baseCycles s.cfg .asla = 2 ∧ baseCycles s.cfg (.cmps (.imm 0)) = 5 ∧
      ran (s.withFetchWord 8 0x12) (fun t => t.cyc == 7) = true := by
  decide +kernel

/-! ## Device vectors (spec/95_test_vectors.md section 3) -/

/-- A write of VIA register `n`. -/
def put (n : Nat) (v : Byte) (s : State) : State :=
  match write8 (BitVec.ofNat 16 (0xD000 + n)) v s with
  | .ok _ t => t
  | .error _ t => t

/-- The value and the state of a read of VIA register `n`. -/
def got (n : Nat) (s : State) : Option Byte × State :=
  match read8 (BitVec.ofNat 16 (0xD000 + n)) s with
  | .ok v t => (some v, t)
  | .error _ t => (none, t)

/-- A VIA update of `n` cycles. -/
def tick (n : Nat) (s : State) : State := s.withVia (s.via.update s.cfg.kInt n)

/-- V-T1-1: Timer1 loaded with 5 and started. -/
def timed : State := State.reset |> put 4 0x05 |> put 5 0x00

/-- V-T1-2, V-T1-3. -/
theorem test_timer1_expires_past_its_count :
    (tick 5 timed).via.ifr = 0 ∧ (tick 5 timed).via.t1Armed = true ∧
      (tick 1 (tick 5 timed)).via.ifr = 0x40 ∧ (tick 1 (tick 5 timed)).via.t1c = 0xFFFF := by
  decide +kernel

/-- V-T1-5. -/
theorem test_timer1_low_read_clears_flag :
    (got 5 (tick 9 timed)).2.via.ifr = 0x40 ∧ (got 4 (tick 9 timed)).1 = some 0xFC ∧
      (got 4 (tick 9 timed)).2.via.ifr = 0 := by
  decide +kernel

/-- V-T2-1. -/
theorem test_timer2_expires :
    (State.reset |> put 8 0x02 |> put 9 0x00 |> tick 2).via.ifr = 0 ∧
      (State.reset |> put 8 0x02 |> put 9 0x00 |> tick 2 |> tick 1).via.ifr = 0x20 := by
  decide +kernel

/-- The Vectrex after reset with code in the cartridge, A, and the direct page at the VIA. -/
def rigVia (code : List Byte) (a : Byte) : State :=
  { State.reset with mem := Memory.putAll [] 0 code, dp := 0xD0, a := a }

/-- V-VIA-F1, V-VIA-F3, V-VIA-F6, P10c. -/
theorem test_via_faults :
    (faults (rigVia [0x97, 0x0B] 0x40) (.unsupportedViaAcr 0x40) (fun t => t.via.acr == 0) &&
      faults (rigVia [0x97, 0x0C] 0x0C) (.unsupportedViaPcr 0x0C) (fun t => t.via.pcr == 0) &&
      faults (rigVia [0x96, 0x1F] 0x99) (.unmodelledViaRegister 0xD01F) (fun t => t.a == 0x99)) = true := by
  decide +kernel

/-- V-PCR-1 to V-PCR-5. -/
theorem test_pcr_zero_and_blank :
    [0xCC, 0xEE, 0xCE, 0xEC, 0xDD].map (fun v =>
      ((put 12 v State.reset).via.zeroActive, (put 12 v State.reset).via.blank)) =
    [(true, true), (false, false), (false, true), (true, false), (true, true)] := by
  decide +kernel

/-- V-MUX-1 to V-MUX-5. -/
theorem test_dac_routing :
    (State.reset |> put 1 0x42).via.vy = 0x42 ∧ (State.reset |> put 1 0x42 |> put 0 0x02).via.offset = 0x42 ∧
      (State.reset |> put 1 0x42 |> put 0 0x04).via.brightness = 0x42 ∧
      (State.reset |> put 0 0x01 |> put 1 0x99).via.vx = 0x99 := by
  decide +kernel

/-- V-PORT-1, V-PORT-2. -/
theorem test_port_pins : portPins 0x3C 0x0F 0xA5 = 0xAC ∧ portPins 0x33 0xF0 0x5A = 0x3A := by decide

/-- The set-up of V-INT-1 to V-INT-6, with the ramp on. -/
def drawing : State := State.reset |> put 12 0xEE |> put 0 0x80 |> put 1 0xA0 |> put 0 0x84 |> put 1 0x40
  |> put 0 0x81 |> put 1 0x60 |> put 0 0x01

/-- V-INT-2. -/
theorem test_integrator_draws :
    (tick 8 drawing).via.lines = [⟨⟨0, 0⟩, ⟨-10000, 10000⟩, 0x40⟩] := by
  decide +kernel

/-- R453 in a state whose PCR was never written: nothing is drawn at brightness 0, as reset leaves it, and a
segment is appended at a brightness above 0 (log 22). -/
theorem test_append_condition :
    (State.reset |> put 0 0x01 |> put 1 0x40 |> tick 8).via.lines = [] ∧
      (State.reset |> put 0 0x84 |> put 1 0x40 |> put 0 0x01 |> tick 8).via.lines =
        [⟨⟨0, 0⟩, ⟨-20000, -40000⟩, 0x40⟩] := by
  decide +kernel

/-- V-INT-3, V-INT-4. -/
theorem test_blank_and_zero :
    (drawing |> tick 8 |> put 12 0xCE |> tick 2).via.posX = -12500 ∧
      (drawing |> tick 8 |> put 12 0xCE |> tick 2).via.lines.length = 1 ∧
      (drawing |> tick 8 |> put 12 0xEC).via.posX = 0 ∧ (drawing |> tick 8 |> put 12 0xEC).via.lines = [] := by
  decide +kernel

/-- V-INT-9: the ramp is sampled before the timer expires. -/
theorem test_ramp_from_timer1 :
    (State.reset |> put 12 0xEE |> put 11 0x80 |> put 1 0x90 |> put 0 0x81 |> put 0 0x84 |> put 4 0x03
      |> put 5 0x00 |> tick 2 |> tick 2 |> tick 2).via.posX = 2500 := by
  decide +kernel

/-- `PW(r, v)` of V-PSG. -/
def psgPut (r v : Byte) (s : State) : State :=
  s |> put 3 0xFF |> put 1 r |> put 0 0x18 |> put 0 0x00 |> put 1 v |> put 0 0x10 |> put 0 0x00

/-- `PR(r)` of V-PSG. -/
def psgGot (r : Byte) (s : State) : Option Byte :=
  (got 1 (s |> put 3 0xFF |> put 1 r |> put 0 0x18 |> put 0 0x00 |> put 3 0x00 |> put 0 0x08)).1

/-- V-PSG-1 to V-PSG-3, V-PSG-6. -/
theorem test_psg_masks :
    psgGot 0 (psgPut 0 0xAB State.reset) = some 0xAB ∧ psgGot 1 (psgPut 1 0xFF State.reset) = some 0x0F ∧
      psgGot 6 (psgPut 6 0xFF State.reset) = some 0x1F ∧
      (psgPut 0x1A 0x77 State.reset).psg.reg 10 = 0x17 := by
  decide +kernel

/-- V-PSG-4, V-PSG-5. -/
theorem test_psg_buttons :
    psgGot 14 (psgPut 14 0x12 State.reset) = some 0xFF ∧
      psgGot 14 { State.reset with buttons := 0x05 } = some 0xFA := by
  decide +kernel

/-- V-PSG-8 to V-PSG-10. -/
theorem test_psg_samples :
    (psgUpdate 15 (((Psg.reset.setReg 0 2).setReg 7 0xFE).setReg 8 0x0F)).samples = [] ∧
      (psgUpdate 96 (((Psg.reset.setReg 0 2).setReg 7 0xFE).setReg 8 0x0F)).samples =
        [5 / 96, 5 / 96, 0, 0, 5 / 96, 5 / 96] := by
  decide +kernel

/-! ## Decode faults, interrupts and the memory map, one step each -/

/-- V-F-1, V-F-2, V-F-6, V-IDX-15, V-TFR-6. -/
theorem test_step_faults :
    (faults (rig [0x01] []) (.illegalOpcode .p0 0x01) (fun t => t.pc == 0xF001) &&
      faults (rig [0x10, 0x10, 0x86] []) (.illegalOpcode .p1 0x10) (fun t => t.pc == 0xF002) &&
      faults (rig [0x3D] []) (.unimplementedOpcode .p0 0x3D) (fun t => t.pc == 0xF001) &&
      faults (rig [0xA6, 0x87] []) (.illegalIndexedMode 0x87) (fun t => t.pc == 0xF002) &&
      faults (rig [0x1F, 0x61] []) (.illegalRegisterTransfer 0x61) (fun t => t.pc == 0xF002)) = true := by
  decide +kernel

/-- V-IDX-4, V-IDX-11, V-IDX-12, V-IDX-14, V-IDX-19. -/
theorem test_indexed_modes :
    (ran { rig [0xA6, 0x93] [(0x2000, 0x30), (0x3000, 0x77)] with x := 0x2002 }
        (fun t => t.a == 0x77 && t.x == 0x2000 && t.cyc == 10) &&
      ran (rig [0xA6, 0x8D, 0xFF, 0xFC] []) (fun t => t.a == 0xA6 && t.cyc == 9) &&
      ran (rig [0xA6, 0x9F, 0x20, 0x00] [(0x2000, 0x30), (0x3000, 0x77)])
        (fun t => t.a == 0x77 && t.cyc == 9) &&
      ran { rig [0xA6, 0x90] [(0x2000, 0x5A)] with x := 0x2000 } (fun t => t.a == 0x5A && t.x == 0x2001) &&
      ran { rig [0xEC, 0x84] [(0x0000, 0x34), (0xFFFF, 0x12)] with x := 0xFFFF }
        (fun t => t.d == 0x1234)) = true := by
  decide +kernel

/-- A machine on the Vectrex map with an IRQ asserted by Timer1, under the mc6809 interrupt model. -/
def irqReady : State :=
  { State.reset with
    cc := 0
    pc := 0x0100
    sp := 0xCBEA
    mem := Memory.putAll (Memory.putAll [] 0x0100 [0x12]) 0xFFF8 [0xF1, 0x23]
    via := { Via.reset with ifr := 0x40, ier := 0x40 }
    cfg := { Config.hardware with interruptModel := .mc6809, extendedSet := true } }

/-- R433, R482. -/
theorem test_irq_entry :
    ran irqReady (fun t => t.pc == 0xF123 && t.cc == 0x90 && t.sp == 0xCBDE && t.byteAt 0xCBDE == 0x80 &&
      t.wordAt 0xCBE8 == 0x0100 && t.cyc == 19) = true := by
  decide +kernel

/-- R390, R433: from the CWAI wait nothing is pushed. -/
theorem test_irq_from_cwai :
    ran (irqReady.withWait .cwai) (fun t => t.pc == 0xF123 && t.sp == 0xCBEA && t.wait == .none &&
      t.cyc == 1) = true := by
  decide +kernel

/-- R391: a masked IRQ ends the SYNC wait and takes no entry. -/
theorem test_sync_ends :
    ran ((irqReady.withWait .sync).withCC 0x10) (fun t => t.wait == .none && t.pc == 0x0100 &&
      t.cyc == 1) = true := by
  decide +kernel

/-- P8 under mc6522: an unmasked IRQ under the fault model. -/
theorem test_unmodelled_interrupt :
    faults { irqReady with cfg := { Config.hardware with viaFlagWrites := .mc6522 } }
      (.unmodelledInterrupt 0x40) (fun t => t.pc == 0x0101) = true := by
  decide +kernel

/-- The state after a write of the bus. -/
def wrote (a : Word) (v : Byte) (s : State) : State :=
  match write8 a v s with
  | .ok _ t => t
  | .error _ t => t

/-- P9: RAM and its mirror, ROM and the unmapped regions. -/
theorem test_memory_map :
    State.reset.peek 0x9000 = some 0x00 ∧ (wrote 0xC800 0x55 State.reset).peek 0xCC00 = some 0x55 ∧
      (wrote 0xC800 0x55 State.reset).peek 0xC801 = some 0x00 ∧
      (wrote 0xF000 0x55 State.reset).peek 0xF000 = some 0x00 := by
  decide +kernel

/-- S1: the reset vector of a loaded BIOS, then one NOP. -/
theorem test_reset_and_first_fetch :
    (emulatorReset (State.reset.withMem (Memory.putAll (Memory.putAll [] 0xF000 [0x12]) 0xFFFE [0xF0]))).pc =
        0xF000 ∧
      ran (emulatorReset (State.reset.withMem
        (Memory.putAll (Memory.putAll [] 0xF000 [0x12]) 0xFFFE [0xF0]))) (fun t => t.pc == 0xF001 &&
          t.cyc == 2) = true := by
  decide +kernel

/-- P5: a frame of a machine that has faulted runs no step. -/
theorem test_frame_of_faulted_machine :
    (frameUpdate 0 (1 / 60) none (State.reset.withFault (some ⟨.illegalOpcode .p0 0x01, 0xF002⟩))).1 =
      ⟨[], [], some ⟨.illegalOpcode .p0 0x01, 0xF002⟩⟩ := by
  decide +kernel

/-- The table word 0x3D decodes to MUL, and a page 1 row by its page byte. -/
theorem test_table_words :
    decodeTableWord 8 0x3D = some .mul ∧ decodeTableWord 16 0x1027 = some (.lbeq 0x0000) ∧
      decodeTableWord 8 0x01 = none := by
  decide +kernel

/-- The first instruction after reset is the placed one. -/
theorem test_withFetchWord_runs : ran (State.reset.withFetchWord 8 0x4C) (fun t => t.a == 1) = true := by
  decide +kernel

/-! ## Witnesses: for each statement with hypotheses, a state and operands that meet them -/

/-- The extension set and the mc6809 interrupt model on the flat bus, with data and a stack. -/
def sample : State :=
  { rigX [0x12] [(0x2000, 0x5A), (0x2001, 0xA5)] with
    a := 0x12, b := 0x34, x := 0x2000, y := 0x3000, u := 0x4000, sp := 0x5000, cc := 0x01 }

/-- A memory operand of `sample`. -/
def datum : Ea := .idx (.inc2 .x false)

theorem witness_DecodeEncodeRoundTrip : (Instr.exg (.r8 .a) (.r8 .dp)).wellFormed = true := by decide

theorem witness_DecodeConsumesItsBytes :
    decode [0x10, 0xAE, 0x89, 0x12, 0x34, 0x99] =
      .ok (.ldy (.mem (.idx (.off16 .x 0x1234 false))), [0x99]) := by decide

theorem witness_StepRunsDecodedInstruction :
    sample.fault = none ∧ sample.wait = .none ∧ irqTaken sample = false ∧ decode [0x12] = .ok (.nop, []) ∧
      HoldsBytes sample sample.pc [0x12] ∧
      (∀ row, lookup (opcodeOf .nop).1 (opcodeOf .nop).2 = some row → tierAllowed sample.cfg row.tier = true) := by
  refine ⟨rfl, rfl, rfl, by decide, ⟨by decide +kernel, trivial⟩, fun row h => ?_⟩
  have e : lookup .p0 0x12 = some ⟨.base, .inh .nop⟩ := rfl
  cases (e.symm.trans h)
  rfl

/-- Code of one byte stands where the machine fetches it. -/
theorem rig_holds_one (v : Byte) : HoldsBytes (rig [v] []) 0xF000 [v] := by
  refine ⟨?_, trivial⟩
  show some (Memory.get (Memory.put [] 0xF000 v) 0xF000) = some v
  rw [Memory.get_put_same _ rfl]

/-- Code of two bytes stands where the machine fetches it. -/
theorem rig_holds_two (v w : Byte) : HoldsBytes (rig [v, w] []) 0xF000 [v, w] := by
  refine ⟨?_, ?_, trivial⟩
  · show some (Memory.get (Memory.put (Memory.put [] 0xF000 v) 0xF001 w) 0xF000) = some v
    rw [Memory.get_put_other _ _ _ _ (by decide), Memory.get_put_same _ rfl]
  · show some (Memory.get (Memory.put (Memory.put [] 0xF000 v) 0xF001 w) 0xF001) = some w
    rw [Memory.get_put_same _ (Memory.wf_put _ rfl _ _)]

/-- Code of three bytes stands where the machine fetches it. -/
theorem rig_holds_three (v w x : Byte) : HoldsBytes (rig [v, w, x] []) 0xF000 [v, w, x] := by
  refine ⟨?_, ?_, ?_, trivial⟩
  · show some (Memory.get (Memory.put (Memory.put (Memory.put [] 0xF000 v) 0xF001 w) 0xF002 x) 0xF000) = some v
    rw [Memory.get_put_other _ _ _ _ (by decide), Memory.get_put_other _ _ _ _ (by decide),
      Memory.get_put_same _ rfl]
  · show some (Memory.get (Memory.put (Memory.put (Memory.put [] 0xF000 v) 0xF001 w) 0xF002 x) 0xF001) = some w
    rw [Memory.get_put_other _ _ _ _ (by decide), Memory.get_put_same _ (Memory.wf_put _ rfl _ _)]
  · show some (Memory.get (Memory.put (Memory.put (Memory.put [] 0xF000 v) 0xF001 w) 0xF002 x) 0xF002) = some x
    rw [Memory.get_put_same _ (Memory.wf_put _ (Memory.wf_put _ rfl _ _) _ _)]

/-- A `rig` machine is ready to fetch. -/
theorem rig_ready (bs : List Byte) :
    (rig bs []).fault = none ∧ (rig bs []).wait = .none ∧ irqTaken (rig bs []) = false ∧
      (rig bs []).pc = 0xF000 := ⟨rfl, rfl, rfl, rfl⟩

/-- Each shape of the bytes with each of the two faults. -/
theorem witness_StepFaultsOnOpcodeWithoutMeaning :
    (HoldsBytes (rig [0x01] []) 0xF000 [0x01] ∧ pageOf 0x01 = none ∧ lookup .p0 0x01 = none) ∧
    (HoldsBytes (rig [0x10, 0x10] []) 0xF000 [0x10, 0x10] ∧ lookup .p1 0x10 = none) ∧
    (HoldsBytes (rig [0x11, 0xFF] []) 0xF000 [0x11, 0xFF] ∧ lookup .p2 0xFF = none) ∧
    (HoldsBytes (rig [0x3D] []) 0xF000 [0x3D] ∧ pageOf 0x3D = none ∧
      ∃ row, lookup .p0 0x3D = some row ∧ tierAllowed (rig [0x3D] []).cfg row.tier = false) ∧
    (HoldsBytes (rig [0x10, 0x3F] []) 0xF000 [0x10, 0x3F] ∧
      ∃ row, lookup .p1 0x3F = some row ∧ tierAllowed (rig [0x10, 0x3F] []).cfg row.tier = false) ∧
    (HoldsBytes (rig [0x11, 0x3F] []) 0xF000 [0x11, 0x3F] ∧
      ∃ row, lookup .p2 0x3F = some row ∧ tierAllowed (rig [0x11, 0x3F] []).cfg row.tier = false) :=
  ⟨⟨rig_holds_one _, rfl, rfl⟩, ⟨rig_holds_two _ _, rfl⟩, ⟨rig_holds_two _ _, rfl⟩,
    ⟨rig_holds_one _, rfl, _, rfl, rfl⟩, ⟨rig_holds_two _ _, _, rfl, rfl⟩, ⟨rig_holds_two _ _, _, rfl, rfl⟩⟩

/-- Each page, each illegal submode, mixed widths both ways, and the first and last undefined nibble on each
side. -/
theorem witness_StepFaultsOnIllegalPostByte :
    (∀ pp, HoldsBytes (rig [0xA6, pp] []) 0xF000 [0xA6, pp]) ∧
    (∀ pp, HoldsBytes (rig [0x1F, pp] []) 0xF000 [0x1F, pp]) ∧
    (∀ pp, HoldsBytes (rig [0x10, 0xAE, pp] []) 0xF000 [0x10, 0xAE, pp]) ∧
    (∀ pp, HoldsBytes (rig [0x11, 0xAC, pp] []) 0xF000 [0x11, 0xAC, pp]) ∧
    (∃ row, lookup .p1 0xAE = some row ∧ row.tier = .base ∧ ∃ k, row.form = .idx k) ∧
    (∃ row, lookup .p2 0xAC = some row ∧ row.tier = .base ∧ ∃ k, row.form = .idx k) ∧
    (∀ pp ∈ ([0x87, 0x9A, 0xBE, 0xF7] : List Byte),
      pp.getLsbD 7 = true ∧ (lowNibble pp = 7 ∨ lowNibble pp = 10 ∨ lowNibble pp = 14)) ∧
    (∀ pp ∈ ([0x18, 0x81, 0x06, 0x17, 0x8C, 0x8F, 0x60, 0x71, 0xC8, 0xF8] : List Byte),
      pp.getLsbD 3 ≠ pp.getLsbD 7 ∨ lowNibble pp = 6 ∨ lowNibble pp = 7 ∨ 12 ≤ (lowNibble pp).toNat ∨
        highNibble pp = 6 ∨ highNibble pp = 7 ∨ 12 ≤ (highNibble pp).toNat) ∧
    (∃ row, lookup .p0 0xA6 = some row ∧ row.tier = .base ∧ ∃ k, row.form = .idx k) ∧
    (∃ row, lookup .p0 0x1F = some row ∧ row.tier = .base ∧ ∃ k, row.form = .regpair k) ∧
    pageOf 0xA6 = none ∧ pageOf 0x1F = none :=
  ⟨fun _ => rig_holds_two _ _, fun _ => rig_holds_two _ _, fun _ => rig_holds_three _ _ _,
    fun _ => rig_holds_three _ _ _, ⟨_, rfl, rfl, _, rfl⟩, ⟨_, rfl, rfl, _, rfl⟩, by decide, by decide, ⟨_, rfl, rfl, _, rfl⟩,
    ⟨_, rfl, rfl, _, rfl⟩, rfl, rfl⟩

theorem witness_FaultIsSticky :
    (State.reset.withFault (some ⟨.illegalOpcode .p0 0x01, 0xF002⟩)).fault =
      some ⟨.illegalOpcode .p0 0x01, 0xF002⟩ := rfl

theorem witness_FaultRecordNamesInstruction :
    (rig [0x01] []).fault = none ∧ ∃ r t, step (rig [0x01] []) = .fault (.fatal r t) := by
  refine ⟨rfl, ?_⟩
  have h : faults (rig [0x01] []) (.illegalOpcode .p0 0x01) (fun _ => true) = true := by decide +kernel
  unfold faults at h
  split at h
  · exact ⟨_, _, by assumption⟩
  · cases h

theorem viaReset_safe : ViaSafe Via.reset :=
  ⟨by decide, by decide, .inl (by decide), (fun h => nomatch h), rfl, (fun _ h => nomatch h)⟩

theorem psgReset_masked : ∀ a : BitVec 4, Psg.reset.reg a &&& ~~~psgMask a = 0 := by decide +kernel

/-- A safe machine whose next instruction is a byte of the cartridge. -/
theorem safe_placed (v : Byte) (hv : v ≠ 0) : Safe { State.reset with mem := [(0, v)] } where
  memWf := by
    have h : (v == Memory.unlisted) = false := beq_eq_false_iff_ne.2 hv
    simp [Memory.wf, Memory.wfFrom, bne, h]
  memKeys := by
    intro c hc
    cases List.mem_singleton.1 hc
    rfl
  via := viaReset_safe
  psg := ⟨Nat.zero_lt_succ _, psgReset_masked, (fun _ h => nomatch h)⟩
  mode := by show PsgMode.inactive = psgModeOf ((0 : Byte).getLsbD 4) ((0 : Byte).getLsbD 3); decide
  wait := fun h => absurd rfl h
  ier := fun _ => rfl
  cycles := rfl

theorem witness_StepKeepsSafe :
    Safe { State.reset with mem := [(0, 0x12)] } ∧
      ∃ t, step { State.reset with mem := [(0, 0x12)] } = .next t := by
  refine ⟨safe_placed _ (by decide), ?_⟩
  obtain ⟨t, h, -⟩ := ran_next (s := { State.reset with mem := [(0, 0x12)] }) (p := fun _ => true)
    (by decide +kernel)
  exact ⟨t, h⟩

theorem witness_FaultLeavesSafe :
    Safe { State.reset with mem := [(0, 0x01)] } ∧
      ∃ r t, step { State.reset with mem := [(0, 0x01)] } = .fault (.fatal r t) := by
  refine ⟨safe_placed _ (by decide), ?_⟩
  have h : faults { State.reset with mem := [(0, 0x01)] } (.illegalOpcode .p0 0x01) (fun _ => true) = true := by
    decide +kernel
  unfold faults at h
  split at h
  · exact ⟨_, _, by assumption⟩
  · cases h

theorem witness_PollNeverFaultsUnderIgnore :
    Safe { State.reset with mem := [(0, 0x12)] } ∧
      ({ State.reset with mem := [(0, 0x12)] } : State).cfg.viaFlagWrites = .ignore ∧
      ({ State.reset with mem := [(0, 0x12)] } : State).fault = none ∧
      ∃ t, stepBody (beginStep { State.reset with mem := [(0, 0x12)] }) = .next t :=
  ⟨safe_placed _ (by decide), rfl, rfl, _, rfl⟩

theorem witness_StepSpendsCycles : (∃ t, step sample = .next t) ∧ sample.cfg.cyclesPositive = true := by
  obtain ⟨t, h, -⟩ := ran_next (s := sample) (p := fun _ => true) (by decide +kernel)
  exact ⟨⟨t, h⟩, rfl⟩

theorem witness_LoadsComplete :
    (∀ k : Src8 → Instr, ∃ t v, always sample.cfg ∧
      readOperand8 (.mem datum) (start (k (.mem datum)) sample) = .ok v t) ∧
    (∀ k : Src16 → Instr, ∃ t v, always sample.cfg ∧
      readOperand16 (.mem datum) (start (k (.mem datum)) sample) = .ok v t) :=
  ⟨fun _ => ⟨_, _, trivial, rfl⟩, fun _ => ⟨_, _, trivial, rfl⟩⟩

theorem witness_StoresComplete :
    (∀ (k : Ea → Instr) (r : Reg8), ∃ t u ea, effAddr datum (start (k datum) sample) = .ok ea t ∧
      write8 ea (t.get8 r) t = .ok ⟨⟩ u) ∧
    (∀ (k : Ea → Instr) (r : Reg16), ∃ t u w ea, effAddr datum (start (k datum) sample) = .ok ea t ∧
      write8 ea (hiByte (t.get16 r)) t = .ok ⟨⟩ u ∧ write8 (ea + 1) (loByte (t.get16 r)) u = .ok ⟨⟩ w) :=
  ⟨fun _ _ => ⟨_, _, _, rfl, rfl⟩, fun _ _ => ⟨_, _, _, _, rfl, rfl, rfl⟩⟩

theorem witness_StoresReachMemory :
    sample.mem.wf = true ∧
      (∀ k : Ea → Instr, ∃ t, effAddr datum (start (k datum) sample) = .ok 0x2000 t) ∧
      storable sample.cfg.bus 0x2000 = true ∧ storable sample.cfg.bus (0x2000 + 1) = true :=
  ⟨by decide +kernel, fun _ => ⟨_, rfl⟩, rfl, rfl⟩

theorem witness_LeaComplete :
    ∀ k : Idx → Instr, ∃ t ea, indexedEa (.dec2 .y true) (start (k (.dec2 .y true)) sample) = .ok ea t :=
  fun _ => ⟨_, _, rfl⟩

theorem witness_AddComplete :
    ∀ k : Src8 → Instr, ∃ t v, always sample.cfg ∧
      readOperand8 (.mem datum) (start (k (.mem datum)) sample) = .ok v t :=
  fun _ => ⟨_, _, trivial, rfl⟩

theorem witness_SubtractAndCompareComplete :
    ∀ k : Src8 → Instr, ∃ t v, always sample.cfg ∧ extended sample.cfg ∧
      readOperand8 (.mem datum) (start (k (.mem datum)) sample) = .ok v t :=
  fun _ => ⟨_, _, trivial, rfl, rfl⟩

theorem witness_WordArithmeticComplete :
    ∀ k : Src16 → Instr, ∃ t v, always sample.cfg ∧
      readOperand16 (.mem datum) (start (k (.mem datum)) sample) = .ok v t :=
  fun _ => ⟨_, _, trivial, rfl⟩

theorem witness_AccumulatorArithmeticComplete : always sample.cfg := trivial

theorem witness_AccumulatorShiftsComplete : always sample.cfg ∧ extended sample.cfg := ⟨trivial, rfl⟩

theorem witness_MemoryArithmeticComplete :
    ∀ (k : Ea → Instr) (f : State → Byte → Byte), ∃ t u w ea v, always sample.cfg ∧
      effAddr datum (start (k datum) sample) = .ok ea t ∧ read8 ea t = .ok v u ∧
      write8 ea (f u v) u = .ok ⟨⟩ w ∧ ∃ w', write8 ea 0 t = .ok ⟨⟩ w' :=
  fun _ _ => ⟨_, _, _, _, _, trivial, rfl, rfl, rfl, _, rfl⟩

theorem witness_MemoryShiftsComplete :
    ∀ (k : Ea → Instr) (f : State → Byte → Byte), ∃ t u w ea v, always sample.cfg ∧ extended sample.cfg ∧
      effAddr datum (start (k datum) sample) = .ok ea t ∧ read8 ea t = .ok v u ∧
      write8 ea (f u v) u = .ok ⟨⟩ w :=
  fun _ _ => ⟨_, _, _, _, _, trivial, rfl, rfl, rfl, rfl⟩

theorem witness_LogicComplete :
    ∀ k : Src8 → Instr, ∃ t v, always sample.cfg ∧ extended sample.cfg ∧
      readOperand8 (.mem datum) (start (k (.mem datum)) sample) = .ok v t :=
  fun _ => ⟨_, _, trivial, rfl, rfl⟩

theorem witness_JumpsAndCallsComplete :
    (∃ t, effAddr datum (start (.jmp datum) sample) = .ok 0x2000 t) ∧
    (∃ t u w, effAddr datum (start (.jsr datum) sample) = .ok 0x2000 t ∧
      write8 (t.sp - 1) (loByte t.pc) (t.set16 .s (t.sp - 1)) = .ok ⟨⟩ u ∧
      write8 (t.sp - 2) (hiByte t.pc) (u.set16 .s (t.sp - 2)) = .ok ⟨⟩ w) ∧
    (∀ i : Instr, ∃ u w,
      write8 (sample.sp - 1) (loByte sample.pc) ((start i sample).set16 .s (sample.sp - 1)) = .ok ⟨⟩ u ∧
      write8 (sample.sp - 2) (hiByte sample.pc) (u.set16 .s (sample.sp - 2)) = .ok ⟨⟩ w) ∧
    (∃ t u h l, read8 sample.sp (start .rts sample) = .ok h t ∧
      read8 (sample.sp + 1) (t.set16 .s (sample.sp + 1)) = .ok l u) :=
  ⟨⟨_, rfl⟩, ⟨_, _, _, rfl, rfl, rfl⟩, fun _ => ⟨_, _, rfl, rfl⟩, ⟨_, _, _, _, rfl, rfl⟩⟩

theorem witness_CompareThenBranch :
    ∃ t u v, readOperand8 (.imm 0x80) (start (.cmpa (.imm 0x80)) sample) = .ok v t ∧
      exec (.cmpa (.imm 0x80)) sample = .next u := ⟨_, _, _, rfl, rfl⟩

theorem witness_PushesComplete :
    avoidsVia sample.cfg.bus (below sample.sp (listBytes 0xFF)) = true ∧
      avoidsVia sample.cfg.bus (below sample.u (listBytes 0x00)) = true ∧ sample.mem.wf = true ∧
      (below sample.sp (listBytes 0xFF)).all (storable sample.cfg.bus) = true ∧
      (∀ (p : Stk) (i : Instr), ∃ t, pushList p 0x81 (start i sample) = .ok ⟨⟩ t) :=
  ⟨by decide +kernel, by decide +kernel, by decide +kernel, by decide +kernel,
    fun p _ => by cases p <;> exact ⟨_, rfl⟩⟩

theorem witness_PullsComplete :
    avoidsVia sample.cfg.bus (upFrom sample.sp (listBytes 0xFF)) = true ∧
      avoidsVia sample.cfg.bus (upFrom sample.u (listBytes 0x00)) = true ∧
      (∀ (p : Stk) (i : Instr), ∃ t, pullList p 0x81 (start i sample) = .ok ⟨⟩ t) :=
  ⟨by decide +kernel, by decide +kernel, fun p _ => by cases p <;> exact ⟨_, rfl⟩⟩

theorem witness_ExchangeAndTransferComplete :
    (XReg.r8 .a).sameWidth (.r16 .d) = false ∧ (XReg.r16 .pc).sameWidth (.r8 .cc) = false := by decide

theorem witness_MultiplySignExtendAbxComplete :
    extended sample.cfg ∧ State.reset.cfg.extendedSet = false := ⟨rfl, rfl⟩

theorem witness_DaaComplete : extended sample.cfg := rfl

theorem witness_DecimalAddition :
    ∃ t u, extended sample.cfg ∧ sample.a.toNat % 16 < 10 ∧ sample.a.toNat / 16 < 10 ∧
      (0x99 : Byte).toNat % 16 < 10 ∧ (0x99 : Byte).toNat / 16 < 10 ∧
      exec (.adca (.imm 0x99)) sample = .next t ∧ exec .daa t = .next u :=
  ⟨_, _, rfl, by decide, by decide, by decide, by decide, rfl, rfl⟩

/-- `irqReady` with its stack in the VIA's page, over twelve registers that take any push of it, and DDRB, the
byte at 0xD002, with bit 7 as given. -/
def viaStack (ddrb : Byte) (sp : Word) : State :=
  { irqReady with pc := 0, sp := sp, via := { Via.reset with ifr := 0x40, ier := 0x40, ddrb := ddrb } }

/-- Each of the twelve stores of a push of the register set completes. -/
def pushes (s : State) : Bool :=
  match pushEntire s with
  | .ok _ _ => true
  | .error _ _ => false

theorem pushes_ok {s : State} (h : pushes s = true) : ∃ t, pushEntire s = .ok ⟨⟩ t := by
  unfold pushes at h
  split at h
  · exact ⟨_, by assumption⟩
  · cases h

/-- The stack in memory and in the VIA's page. -/
theorem witness_SoftwareInterruptsComplete :
    extended sample.cfg ∧ avoidsVia sample.cfg.bus (below sample.sp 12) = true ∧ sample.mem.wf = true ∧
      (below sample.sp 12).all (storable sample.cfg.bus) = true ∧ extended (viaStack 0 0xD00C).cfg ∧
      (∀ i ∈ [Instr.swi, .swi2, .swi3], ∃ t, pushEntire (start i (viaStack 0 0xD00C)) = .ok ⟨⟩ t) :=
  ⟨rfl, by decide +kernel, by decide +kernel, by decide +kernel, rfl, 
    fun i hi => pushes_ok (by revert i; decide +kernel)⟩

/-- E set at S, and E clear, with the stack in memory and in the VIA's page. -/
theorem witness_ReturnFromInterruptComplete :
    extended sample.cfg ∧ avoidsVia sample.cfg.bus (upFrom sample.sp 3) = true ∧
      flag .e (sample.byteAt sample.sp) = false ∧
      avoidsVia sample.cfg.bus (upFrom 0x2001 12) = true ∧ flag .e (sample.byteAt 0x2001) = true ∧
      extended (viaStack 0x80 0xD002).cfg ∧
      (∃ t u, pull8 .s (start .rti (viaStack 0x80 0xD002)) = .ok 0x80 t ∧ flag .e 0x80 = true ∧
        pullList .s 0xFE (t.withCC 0x80) = .ok ⟨⟩ u) ∧
      (∃ t u w, pull8 .s (start .rti (viaStack 0 0xD002)) = .ok 0 t ∧ flag .e 0 = false ∧
        pull16 .s (t.withCC 0) = .ok w u) :=
  ⟨rfl, by decide +kernel, by decide +kernel, by decide +kernel, by decide +kernel, rfl,
    ⟨_, _, rfl, rfl, rfl⟩, ⟨_, _, _, rfl, rfl, rfl⟩⟩

theorem witness_SoftwareInterruptThenReturn :
    extended sample.cfg ∧ sample.mem.wf = true ∧
      (below sample.sp 12).all (storable sample.cfg.bus) = true :=
  ⟨rfl, by decide +kernel, by decide +kernel⟩

theorem witness_WaitInstructionsComplete :
    extended sample.cfg ∧ sample.cfg.interruptModel = .mc6809 ∧
      avoidsVia sample.cfg.bus (below sample.sp 12) = true ∧ sample.mem.wf = true ∧
      (below sample.sp 12).all (storable sample.cfg.bus) = true ∧ State.reset.cfg.extendedSet = false ∧
      extended (viaStack 0 0xD00C).cfg ∧ (viaStack 0 0xD00C).cfg.interruptModel = .mc6809 ∧
      (∃ t, pushEntire ((start (.cwai 0xEF) (viaStack 0 0xD00C)).withCC ((viaStack 0 0xD00C).cc &&& 0xEF)) =
        .ok ⟨⟩ t) :=
  ⟨rfl, rfl, by decide +kernel, by decide +kernel, by decide +kernel, rfl, rfl, rfl,
    pushes_ok (by decide +kernel)⟩

/-- Outside the CWAI wait, with the stack in memory and in the VIA's page, and in the wait. -/
theorem witness_InterruptEntry :
    irqReady.fault = none ∧ irqTaken irqReady = true ∧ irqReady.wait ≠ .cwai ∧
      avoidsVia irqReady.cfg.bus (below irqReady.sp 12) = true ∧ irqReady.mem.wf = true ∧
      (below irqReady.sp 12).all (storable irqReady.cfg.bus) = true ∧
      irqTaken (irqReady.withWait .cwai) = true ∧ (irqReady.withWait .cwai).wait = .cwai ∧
      (viaStack 0 0xD00C).fault = none ∧ irqTaken (viaStack 0 0xD00C) = true ∧
      (viaStack 0 0xD00C).wait ≠ .cwai ∧ ∃ t, pushEntire (beginStep (viaStack 0 0xD00C)) = .ok ⟨⟩ t :=
  ⟨rfl, by decide +kernel, by decide, by decide +kernel, by decide +kernel, by decide +kernel,
    by decide +kernel, rfl, rfl, by decide +kernel, by decide, pushes_ok (by decide +kernel)⟩

/-- Both waits. -/
theorem witness_WaitingStepSpendsOneCycle :
    ∀ w ∈ [WaitState.sync, WaitState.cwai], (sample.withWait w).fault = none ∧ (sample.withWait w).wait ≠ .none ∧
      irqTaken (sample.withWait w) = false ∧ (sample.withWait w).cfg.interruptModel = .mc6809 ∧
      (sample.withWait w).wait = w := by
  intro w hw
  refine ⟨rfl, ?_, rfl, rfl, rfl⟩
  revert w; decide

theorem witness_FrameOfRegisters :
    (∃ t, exec (.std datum) sample = .next t) ∧ RegName.y ∉ regsWritten (.std datum) :=
  ⟨⟨_, rfl⟩, by decide⟩

theorem witness_FrameOfFlags : (∃ t, exec .asra sample = .next t) ∧ Flag.v ∉ flagsWritten .asra :=
  ⟨⟨_, rfl⟩, by decide⟩

/-- An instruction that stores and one that does not. -/
theorem witness_FrameOfMemory :
    (∃ t, exec (.std datum) sample = .next t) ∧
      storedTo (.std datum) (start (.std datum) sample) = [0x2000, 0x2001] ∧
      (∃ t, exec (.ldd (.mem datum)) sample = .next t) :=
  ⟨⟨_, rfl⟩, by decide +kernel, ⟨_, rfl⟩⟩

theorem witness_FrameOfTheRest :
    (∃ t, exec .nop sample = .next t) ∧ touchesNoMemory .nop = true ∧
      storedTo .nop (start .nop sample) = [] ∧ (∀ m, Instr.nop ≠ .cwai m) ∧ Instr.nop ≠ .sync :=
  ⟨⟨_, rfl⟩, rfl, rfl, fun _ => Instr.noConfusion, Instr.noConfusion⟩

theorem witness_IndexedAddresses :
    (sample.peek 0xFFFF).isSome = true ∧ (sample.peek (0xFFFF + 1)).isSome = true := ⟨rfl, rfl⟩

theorem witness_OperandsReadable :
    ∃ t ea, effAddr datum sample = .ok ea t ∧ (t.peek ea).isSome = true ∧
      (t.peek (ea + 1)).isSome = true := ⟨_, _, rfl, rfl, rfl⟩

/-- Each clause at both ends of its range. -/
theorem witness_BusRegions :
    State.reset.mem.wf = true ∧ State.reset.cfg.bus = .vectrex ∧ sample.mem.wf = true ∧
      sample.cfg.bus = .flatTest ∧
      [0xC800, 0xCFFF].all (fun a : Word => decide (0xC800 ≤ a.toNat ∧ a.toNat < 0xD000)) = true ∧
      [0x0000, 0xC7FF, 0xD800, 0xFFFF].all
        (fun a : Word => decide (a.toNat < 0xC800 ∨ 0xD800 ≤ a.toNat)) = true ∧
      [0x8000, 0xC7FF, 0xD800, 0xDFFF].all (fun a : Word =>
        decide (0x8000 ≤ a.toNat ∧ a.toNat < 0xC800 ∨ 0xD800 ≤ a.toNat ∧ a.toNat < 0xE000)) = true := by
  decide +kernel

/-- Every register at its first address and its last mirror. -/
theorem witness_ViaReads :
    ∀ n < 16, region State.reset.cfg.bus (0xD000 + BitVec.ofNat 16 n) = .via ∧
      (0xD000 + BitVec.ofNat 16 n).toNat % 16 = n ∧
      region State.reset.cfg.bus (0xD7F0 + BitVec.ofNat 16 n) = .via ∧
      (0xD7F0 + BitVec.ofNat 16 n).toNat % 16 = n := by
  decide +kernel

theorem witness_ViaDataWrites :
    ∀ n ∈ [0, 1, 2, 3, 4, 5, 6, 7, 8, 9, 10, 15],
      region State.reset.cfg.bus (0xD7F0 + BitVec.ofNat 16 n) = .via ∧
      (0xD7F0 + BitVec.ofNat 16 n).toNat % 16 = n := by
  decide +kernel

/-- Supported and unsupported values of ACR and PCR at the ends of their ranges. -/
theorem witness_ViaControlWrites :
    region State.reset.cfg.bus 0xD00B = .via ∧ (0xD00B : Word).toNat % 16 = 11 ∧
      region State.reset.cfg.bus 0xD00C = .via ∧ (0xD00C : Word).toNat % 16 = 12 ∧
      (∀ x ∈ ([0xCC, 0xEF] : List Byte), (x.toNat / 2 % 8 = 6 ∨ x.toNat / 2 % 8 = 7) ∧ 6 ≤ x.toNat / 32) ∧
      (∀ x ∈ ([0x00, 0xCB, 0xBF] : List Byte), x.toNat / 2 % 8 < 6 ∨ x.toNat / 32 < 6) := by
  decide +kernel

/-- A write of each register under each setting; under strict one that changes the register and one that does
not. -/
theorem witness_ViaFlagAndEnableWrites :
    region State.reset.cfg.bus 0xD00D = .via ∧ (0xD00D : Word).toNat % 16 = 13 ∧
      region State.reset.cfg.bus 0xD00E = .via ∧ (0xD00E : Word).toNat % 16 = 14 ∧
      (∀ k, k < 7 → (ifrAfter 0x60 0x20).getLsbD k = ((0x60 : BitVec 7).getLsbD k && !(0x20 : Byte).getLsbD k)) ∧
      (∀ k, k < 7 → (ierAfter 0x20 0xC0).getLsbD k =
        if (0xC0 : Byte).getLsbD k then (0xC0 : Byte).getLsbD 7 else (0x20 : BitVec 7).getLsbD k) ∧
      ({ Via.reset with ier := ierAfter 0x00 0x40 } = Via.reset) ∧
      ({ Via.reset with ier := ierAfter 0x00 0xC0 } ≠ Via.reset) ∧
      ({ Via.reset with ifr := ifrAfter 0x00 0x20 } = Via.reset) ∧
      ({ ({ Via.reset with ifr := 0x20 } : Via) with ifr := ifrAfter 0x20 0x20 } ≠
        { Via.reset with ifr := 0x20 }) := by
  decide +kernel

/-- Lists whose total is at the count and one past it, armed and not. -/
theorem witness_TimersExpireOnce :
    ∀ v ∈ [timed.via, Via.reset], ∀ ns ∈ [[2, 3], [2, 4]],
      ∃ w, w = ns.foldl (fun (v : Via) n => v.update 0 n) v :=
  fun _ _ _ _ => ⟨_, rfl⟩

/-- The beam of V-INT-9: the ramp from Timer1, started with the count 3. -/
def timedRamp : State := State.reset |> put 12 0xEE |> put 11 0x80 |> put 1 0x90 |> put 0 0x81 |> put 0 0x84
  |> put 4 0x03 |> put 5 0x00

/-- /ZERO active, the ramp off, and the ramp on lit, blanked and dark, from Port B and from Timer1; lists that
end at its count and that pass it. -/
theorem witness_BeamIntegration :
    (drawing.via.acr.getLsbD 7 = false ∧ drawing.via.zeroActive = false ∧ drawing.via.orb.getLsbD 7 = false ∧
      drawing.via.blank = false ∧ 0 < drawing.via.brightness.toNat) ∧
    ((put 0 0x81 drawing).via.orb.getLsbD 7 = true ∧ (put 0 0x81 drawing).via.zeroActive = false) ∧
    (put 12 0xEC drawing).via.zeroActive = true ∧ (put 12 0xCE drawing).via.blank = true ∧
    State.reset.via.brightness = 0 ∧
    (timedRamp.via.acr.getLsbD 7 = true ∧ timedRamp.via.zeroActive = false ∧ timedRamp.via.t1Pb7 = false ∧
      timedRamp.via.t1Armed = true ∧ timedRamp.via.blank = false ∧ 0 < timedRamp.via.brightness.toNat ∧
      [3, 4].dropLast.sum ≤ timedRamp.via.t1c.toNat ∧ [2].sum ≤ timedRamp.via.t1c.toNat ∧
      timedRamp.via.t1c.toNat < [2].sum + 2) ∧
    ((tick 4 timedRamp).via.acr.getLsbD 7 = true ∧ (tick 4 timedRamp).via.t1Pb7 = true) := by
  decide +kernel

/-- A register that reads back and register 14; for each mode, two other modes that change to it. -/
theorem witness_PsgRegisterProtocol : lowNibble 0x1A ≠ 14 ∧ lowNibble 0x0E = 14 ∧
    (3 : BitVec 4) ≠ lowNibble 0x1A ∧
    (∀ bdir bc1 : Bool, psgModeOf (!bdir) bc1 ≠ psgModeOf bdir bc1 ∧
      psgModeOf bdir (!bc1) ≠ psgModeOf bdir bc1) := by decide

/-- Periods 0 and 0xFFF. -/
theorem witness_ToneTogglesEveryPeriod :
    0 < max 1 (0 : BitVec 12).toNat ∧ 4094 < max 1 (0xFFF : BitVec 12).toNat ∧
      1 < (⟨2, true⟩ : Tone).cnt.toNat := by decide

theorem witness_SampleEverySixteenCycles :
    Psg.reset.div < 15 ∧ ({ Psg.reset with div := 15 } : Psg).div = 15 := by decide

/-- A counter that toggles and one that counts down. -/
theorem witness_ToneSteps : (⟨1, true⟩ : Tone).cnt.toNat ≤ 1 ∧ 1 < (⟨2, true⟩ : Tone).cnt.toNat := by decide

/-- RAM at both ends, and the regions beside it. -/
theorem witness_ResetState :
    State.reset.cfg.bus = .vectrex ∧ region .vectrex 0xC800 = .ram ∧ region .vectrex 0xCFFF = .ram ∧
      region .vectrex 0xC7FF ≠ .ram ∧ region .vectrex 0xD000 ≠ .ram := by decide

/-- Images that just fit, one byte too many, and addresses at the ends of the regions. -/
theorem witness_ImageLoading :
    State.reset.mem.wf = true ∧ State.reset.cfg.bus = .vectrex ∧
      (List.replicate 0x2000 (0x12 : Byte)).length ≤ 0x2000 ∧
      0x2000 < (List.replicate 0x2001 (0x12 : Byte)).length ∧
      (List.replicate 0x8000 (0x12 : Byte)).length ≤ 0x8000 ∧
      0x8000 < (List.replicate 0x8001 (0x12 : Byte)).length ∧ 0xE000 ≤ (0xE000 : Word).toNat ∧
      (0xDFFF : Word).toNat < 0xE000 ∧ (0x7FFF : Word).toNat < 0x8000 ∧ 0x8000 ≤ (0x8000 : Word).toNat := by
  simp only [List.length_replicate]
  decide

theorem witness_FrameSpendsItsBudget : State.reset.cfg.cyclesPositive = true ∧ State.reset.fault = none :=
  ⟨rfl, rfl⟩

end Sys2Proof.Tests
end

/-!
O43, the frame of the flags (spec/00_scope.md R15). The invariant carried through a meaning is that one flag
holds one value. Nothing but a write of CC can break it, so the bus, the stack and the addressing modes keep it
for every flag; each shape of instruction keeps it for the flags its operation leaves alone.
-/
namespace Sys2Proof.Machine

/-! ## What the operations on a value and CC leave alone -/

section FlagOperations

variable {g : Flag}

/-- CC is written whole only where every flag is named. -/
theorem mem_allFlags (g : Flag) : g ∈ allFlags := by cases g <;> decide

theorem flag_or (g : Flag) (c d : Byte) : flag g (c ||| d) = (flag g c || flag g d) :=
  BitVec.getLsbD_or

theorem flag_clrCC (hg : g ∉ [.n, .z, .v, .c]) (cc : Byte) : flag g (clrCC cc) = flag g cc := by
  simp_all [clrCC]

theorem flag_putNZ0_of_notMem {w : Nat} (hg : g ∉ [.n, .z, .v]) (r : BitVec w) (cc : Byte) :
    flag g (putNZ0 r cc) = flag g cc := by
  simp_all

theorem flag_putNZVC_of_notMem {w : Nat} (hg : g ∉ [.n, .z, .v, .c]) (t : Arith w) (cc : Byte) :
    flag g (putNZVC t cc) = flag g cc := by
  simp_all

theorem flag_ldOp {w : Nat} (hg : g ∉ [.n, .z, .v]) (x m : BitVec w) (cc : Byte) :
    flag g (ldOp x m cc).2 = flag g cc :=
  flag_putNZ0_of_notMem hg m cc

theorem flag_orOp (hg : g ∉ [.n, .z, .v]) (a m cc : Byte) : flag g (orOp a m cc).2 = flag g cc :=
  flag_putNZ0_of_notMem hg _ cc

theorem flag_andOp (hg : g ∉ [.n, .z, .v]) (a m cc : Byte) : flag g (andOp a m cc).2 = flag g cc :=
  flag_putNZ0_of_notMem hg _ cc

theorem flag_eorOp (hg : g ∉ [.n, .z, .v]) (a m cc : Byte) : flag g (eorOp a m cc).2 = flag g cc :=
  flag_putNZ0_of_notMem hg _ cc

theorem flag_subOp (hg : g ∉ [.n, .z, .v, .c]) (a m cc : Byte) : flag g (subOp a m cc).2 = flag g cc :=
  flag_putNZVC_of_notMem hg _ cc

theorem flag_sbcOp (hg : g ∉ [.n, .z, .v, .c]) (a m cc : Byte) : flag g (sbcOp a m cc).2 = flag g cc :=
  flag_putNZVC_of_notMem hg _ cc

theorem flag_addWordOp (hg : g ∉ [.n, .z, .v, .c]) (d m : Word) (cc : Byte) :
    flag g (addWordOp d m cc).2 = flag g cc :=
  flag_putNZVC_of_notMem hg _ cc

theorem flag_subWordOp (hg : g ∉ [.n, .z, .v, .c]) (d m : Word) (cc : Byte) :
    flag g (subWordOp d m cc).2 = flag g cc :=
  flag_putNZVC_of_notMem hg _ cc

theorem flag_addOp (hg : g ∉ [.h, .n, .z, .v, .c]) (a m cc : Byte) :
    flag g (addOp a m cc).2 = flag g cc := by
  simp_all [addOp]

theorem flag_adcOp (hg : g ∉ [.h, .n, .z, .v, .c]) (a m cc : Byte) :
    flag g (adcOp a m cc).2 = flag g cc := by
  simp_all [adcOp]

theorem flag_negOp (hg : g ∉ [.n, .z, .v, .c]) (v cc : Byte) : flag g (negOp v cc).2 = flag g cc := by
  simp_all [negOp]

theorem flag_incOp (hg : g ∉ [.n, .z, .v]) (rule : IncVRule) (v cc : Byte) :
    flag g (incOp rule v cc).2 = flag g cc := by
  simp_all [incOp]

theorem flag_decOp (hg : g ∉ [.n, .z, .v]) (v cc : Byte) : flag g (decOp v cc).2 = flag g cc := by
  simp_all [decOp]

theorem flag_asrOp (hg : g ∉ [.n, .z, .c]) (v cc : Byte) : flag g (asrOp v cc).2 = flag g cc := by
  simp_all [asrOp]

theorem flag_lsrOp (hg : g ∉ [.n, .z, .c]) (v cc : Byte) : flag g (lsrOp v cc).2 = flag g cc := by
  simp_all [lsrOp]

theorem flag_aslOp (hg : g ∉ [.n, .z, .v, .c]) (v cc : Byte) : flag g (aslOp v cc).2 = flag g cc := by
  simp_all [aslOp]

theorem flag_comOp (hg : g ∉ [.n, .z, .v, .c]) (v cc : Byte) : flag g (comOp v cc).2 = flag g cc := by
  simp_all [comOp]

theorem flag_rolOp (hg : g ∉ [.n, .z, .v, .c]) (v cc : Byte) : flag g (rolOp v cc).2 = flag g cc := by
  simp_all [rolOp]

theorem flag_rorOp (hg : g ∉ [.n, .z, .c]) (v cc : Byte) : flag g (rorOp v cc).2 = flag g cc := by
  simp_all [rorOp]

theorem flag_daaOp (hg : g ∉ [.n, .z, .c]) (a cc : Byte) : flag g (daaOp a cc).2 = flag g cc := by
  simp_all [daaOp]

theorem flag_mulCC (hg : g ∉ [.z, .c]) (p : Word) (cc : Byte) : flag g (mulCC p cc) = flag g cc := by
  simp_all [mulCC]

theorem flag_sexCC (hg : g ∉ [.n, .z]) (b cc : Byte) : flag g (sexCC b cc) = flag g cc := by
  simp_all [sexCC]

theorem flag_maskIF (hg : g ∉ [.e, .i, .f]) : flag g maskIF = false := by
  cases g with
  | e | i | f => exact absurd (by decide) hg
  | c | v | z | n | h => rfl

end FlagOperations

/-! ## Keeping one flag at one value -/

/-- The flag `g` of CC holds the value `b`. -/
def FlagIs (g : Flag) (b : Bool) (s : State) : Prop := flag g s.cc = b

/-- Only a write of CC itself changes CC. -/
theorem State.set8_cc_of_ne (s : State) {r : Reg8} (v : Byte) (h : r ≠ .cc) : (s.set8 r v).cc = s.cc :=
  State.get8_set8_ne s v h.symm

section Keeping

variable {g : Flag} {b : Bool}

theorem keepsFlag_modify {f : State → State} (h : ∀ s, flag g (f s).cc = flag g s.cc) :
    Keeps (FlagIs g b) (modify f) :=
  keeps_modify fun s hs => (h s).trans hs

theorem keepsFlag_modify_cc {f : State → State} (h : ∀ s, (f s).cc = s.cc) :
    Keeps (FlagIs g b) (modify f) :=
  keepsFlag_modify fun s => congrArg (flag g) (h s)

/-! ### Operations that write no CC -/

theorem keepsFlag_addCyc (n : Nat) : Keeps (FlagIs g b) (addCyc n) := keepsFlag_modify_cc fun _ => rfl

theorem keepsFlag_read8 (a : Word) : Keeps (FlagIs g b) (read8 a) := by
  intro s hs
  cases e : read8 a s with
  | ok v t => obtain ⟨w, rfl⟩ := read8_frame e; exact hs
  | error k t => rw [read8_error e]; exact hs

theorem keepsFlag_write8 (a : Word) (v : Byte) : Keeps (FlagIs g b) (write8 a v) := by
  intro s hs
  cases e : write8 a v s with
  | ok u t => obtain ⟨m, rfl⟩ | ⟨-, v, p, rfl⟩ := write8_frame e <;> exact hs
  | error k t => rw [write8_error e]; exact hs

theorem keepsFlag_read16 (a : Word) : Keeps (FlagIs g b) (read16 a) :=
  keeps_bind (keepsFlag_read8 a) fun _ => keeps_bind (keepsFlag_read8 _) fun _ => keeps_pure _

theorem keepsFlag_write16 (a v : Word) : Keeps (FlagIs g b) (write16 a v) :=
  keeps_bind (keepsFlag_write8 a _) fun _ => keepsFlag_write8 _ _

theorem keepsFlag_push8 (p : Stk) (v : Byte) : Keeps (FlagIs g b) (push8 p v) :=
  keeps_bind (keepsFlag_modify_cc fun s => s.set16_cc _ _) fun _ =>
    keeps_bind keeps_get fun _ => keepsFlag_write8 _ _

theorem keepsFlag_push16 (p : Stk) (v : Word) : Keeps (FlagIs g b) (push16 p v) :=
  keeps_bind (keepsFlag_push8 p _) fun _ => keepsFlag_push8 p _

theorem keepsFlag_pull8 (p : Stk) : Keeps (FlagIs g b) (pull8 p) :=
  keeps_bind keeps_get fun _ => keeps_bind (keepsFlag_read8 _) fun _ =>
    keeps_bind (keepsFlag_modify_cc fun s => s.set16_cc _ _) fun _ => keeps_pure _

theorem keepsFlag_pull16 (p : Stk) : Keeps (FlagIs g b) (pull16 p) :=
  keeps_bind (keepsFlag_pull8 p) fun _ => keeps_bind (keepsFlag_pull8 p) fun _ => keeps_pure _

theorem keepsFlag_pushIf8 (p : Stk) (sel : Bool) (r : Reg8) : Keeps (FlagIs g b) (pushIf8 p sel r) :=
  keeps_ite (keeps_bind keeps_get fun _ => keepsFlag_push8 p _) (keeps_pure _)

theorem keepsFlag_pushIf16 (p : Stk) (sel : Bool) (r : Reg16) : Keeps (FlagIs g b) (pushIf16 p sel r) :=
  keeps_ite (keeps_bind keeps_get fun _ => keepsFlag_push16 p _) (keeps_pure _)

theorem keepsFlag_pullIf8 (p : Stk) (sel : Bool) {r : Reg8} (h : r ≠ .cc) :
    Keeps (FlagIs g b) (pullIf8 p sel r) :=
  keeps_ite (keeps_bind (keepsFlag_pull8 p) fun v => keepsFlag_modify_cc fun s => s.set8_cc_of_ne v h)
    (keeps_pure _)

theorem keepsFlag_pullIf16 (p : Stk) (sel : Bool) (r : Reg16) : Keeps (FlagIs g b) (pullIf16 p sel r) :=
  keeps_ite (keeps_bind (keepsFlag_pull16 p) fun _ => keepsFlag_modify_cc fun s => s.set16_cc _ _)
    (keeps_pure _)

theorem keepsFlag_pushList (p : Stk) (m : Byte) : Keeps (FlagIs g b) (pushList p m) :=
  keeps_bind (keepsFlag_pushIf16 p _ _) fun _ => keeps_bind (keepsFlag_pushIf16 p _ _) fun _ =>
  keeps_bind (keepsFlag_pushIf16 p _ _) fun _ => keeps_bind (keepsFlag_pushIf16 p _ _) fun _ =>
  keeps_bind (keepsFlag_pushIf8 p _ _) fun _ => keeps_bind (keepsFlag_pushIf8 p _ _) fun _ =>
  keeps_bind (keepsFlag_pushIf8 p _ _) fun _ => keepsFlag_pushIf8 p _ _

/-- A pull writes CC only where bit 0 of its list selects CC (spec/45_stack_transfer.md R345). -/
theorem keepsFlag_pullList (p : Stk) {m : Byte} (h : m.getLsbD 0 = false) :
    Keeps (FlagIs g b) (pullList p m) := by
  have noCC : Keeps (FlagIs g b) (pullIf8 p (m.getLsbD 0) .cc) := by rw [h]; exact keeps_pure _
  exact
    keeps_bind noCC fun _ => keeps_bind (keepsFlag_pullIf8 p _ (by decide)) fun _ =>
    keeps_bind (keepsFlag_pullIf8 p _ (by decide)) fun _ =>
    keeps_bind (keepsFlag_pullIf8 p _ (by decide)) fun _ =>
    keeps_bind (keepsFlag_pullIf16 p _ _) fun _ => keeps_bind (keepsFlag_pullIf16 p _ _) fun _ =>
    keeps_bind (keepsFlag_pullIf16 p _ _) fun _ => keepsFlag_pullIf16 p _ _

theorem keepsFlag_indexedAt (r : IdxReg) (n : Word) (c : Nat) : Keeps (FlagIs g b) (indexedAt r n c) :=
  keeps_bind keeps_get fun _ => keeps_bind (keepsFlag_addCyc c) fun _ => keeps_pure _

theorem keepsFlag_postIncrement (r : IdxReg) (n : Word) (c : Nat) :
    Keeps (FlagIs g b) (postIncrement r n c) :=
  keeps_bind keeps_get fun _ => keeps_bind (keepsFlag_modify_cc fun s => s.set16_cc _ _) fun _ =>
    keeps_bind (keepsFlag_addCyc c) fun _ => keeps_pure _

theorem keepsFlag_preDecrement (r : IdxReg) (n : Word) (c : Nat) :
    Keeps (FlagIs g b) (preDecrement r n c) :=
  keeps_bind (keepsFlag_modify_cc fun s => s.set16_cc _ _) fun _ =>
    keeps_bind (keepsFlag_addCyc c) fun _ => keeps_bind keeps_get fun _ => keeps_pure _

theorem keepsFlag_pcRelative (n : Word) (c : Nat) : Keeps (FlagIs g b) (pcRelative n c) :=
  keeps_bind keeps_get fun _ => keeps_bind (keepsFlag_addCyc c) fun _ => keeps_pure _

theorem keepsFlag_indirect (ind : Bool) (ea : Word) : Keeps (FlagIs g b) (indirect ind ea) :=
  keeps_ite (keeps_bind (keepsFlag_read16 ea) fun _ =>
    keeps_bind (keepsFlag_addCyc 3) fun _ => keeps_pure _) (keeps_pure _)

theorem keepsFlag_indexedEa (i : Idx) : Keeps (FlagIs g b) (indexedEa i) := by
  cases i with
  | off5 => exact keepsFlag_indexedAt _ _ _
  | inc1 => exact keepsFlag_postIncrement _ _ _
  | dec1 => exact keepsFlag_preDecrement _ _ _
  | inc2 => exact keeps_bind (keepsFlag_postIncrement _ _ _) fun _ => keepsFlag_indirect _ _
  | dec2 => exact keeps_bind (keepsFlag_preDecrement _ _ _) fun _ => keepsFlag_indirect _ _
  | zero | off8 | off16 =>
    exact keeps_bind (keepsFlag_indexedAt _ _ _) fun _ => keepsFlag_indirect _ _
  | accA | accB | accD =>
    exact keeps_bind keeps_get fun _ =>
      keeps_bind (keepsFlag_indexedAt _ _ _) fun _ => keepsFlag_indirect _ _
  | pc8 | pc16 => exact keeps_bind (keepsFlag_pcRelative _ _) fun _ => keepsFlag_indirect _ _
  | extInd =>
    exact keeps_bind (keepsFlag_read16 _) fun _ => keeps_bind (keepsFlag_addCyc 5) fun _ => keeps_pure _

theorem keepsFlag_effAddr (e : Ea) : Keeps (FlagIs g b) (effAddr e) := by
  cases e with
  | dir => exact keeps_bind keeps_get fun _ => keeps_pure _
  | idx => exact keepsFlag_indexedEa _
  | ext => exact keeps_pure _

theorem keepsFlag_readOperand8 (m : Src8) : Keeps (FlagIs g b) (readOperand8 m) := by
  cases m with
  | imm => exact keeps_pure _
  | mem e => exact keeps_bind (keepsFlag_effAddr e) fun _ => keepsFlag_read8 _

theorem keepsFlag_readOperand16 (m : Src16) : Keeps (FlagIs g b) (readOperand16 m) := by
  cases m with
  | imm => exact keeps_pure _
  | mem e => exact keeps_bind (keepsFlag_effAddr e) fun _ => keepsFlag_read16 _

theorem keepsFlag_branch (p : Cond) (off : Word) : Keeps (FlagIs g b) (branch p off) :=
  keeps_bind keeps_get fun _ => keeps_ite
    (keeps_bind (keepsFlag_modify_cc fun _ => rfl) fun _ => keepsFlag_addCyc _) (keeps_pure _)

theorem keepsFlag_call (a : Word) : Keeps (FlagIs g b) (call a) :=
  keeps_bind keeps_get fun _ => keeps_bind (keepsFlag_push16 _ _) fun _ => keepsFlag_modify_cc fun _ => rfl

theorem keepsFlag_pushRegs (p : Stk) (m : Byte) : Keeps (FlagIs g b) (pushRegs p m) :=
  keeps_bind (keepsFlag_pushList p m) fun _ => keeps_bind keeps_get fun _ => keepsFlag_addCyc _

theorem keepsFlag_pullRegs (p : Stk) {m : Byte} (hg : g ∉ if m.getLsbD 0 then allFlags else []) :
    Keeps (FlagIs g b) (pullRegs p m) := by
  have notCC : m.getLsbD 0 = false := by
    by_contra h
    exact hg (by simpa [h] using mem_allFlags g)
  exact keeps_bind (keepsFlag_pullList p notCC) fun _ => keeps_bind keeps_get fun _ => keepsFlag_addCyc _

/-- EXG writes both its registers, so it keeps CC where neither of them is CC. -/
theorem keepsFlag_exchange {r1 r2 : XReg} (hg : g ∉ if r1 = .r8 .cc ∨ r2 = .r8 .cc then allFlags else []) :
    Keeps (FlagIs g b) (transfer r1 r2 exchange8 exchange16) := by
  have ⟨h1, h2⟩ : r1 ≠ .r8 .cc ∧ r2 ≠ .r8 .cc := by
    rw [← not_or]
    intro h
    exact hg (by simpa [h] using mem_allFlags g)
  cases r1 <;> cases r2
  case r8.r8 p q =>
    refine keepsFlag_modify_cc fun s => ?_
    rw [exchange8, State.set8_cc_of_ne _ _ (by simpa using h2), State.set8_cc_of_ne _ _ (by simpa using h1)]
  case r16.r16 => exact keepsFlag_modify_cc fun s => by simp only [exchange16, State.set16_cc]
  all_goals exact keeps_raise _

/-- TFR writes its second register alone. -/
theorem keepsFlag_copy {r1 r2 : XReg} (hg : g ∉ if r2 = .r8 .cc then allFlags else []) :
    Keeps (FlagIs g b) (transfer r1 r2 copy8 copy16) := by
  have h2 : r2 ≠ .r8 .cc := by
    intro h
    exact hg (by simpa [h] using mem_allFlags g)
  cases r1 <;> cases r2
  case r8.r8 p q => exact keepsFlag_modify_cc fun s => State.set8_cc_of_ne _ _ (by simpa using h2)
  case r16.r16 => exact keepsFlag_modify_cc fun s => State.set16_cc _ _ _
  all_goals exact keeps_raise _

/-! ### Shapes of instructions, for the flags their operation leaves alone -/

theorem keepsFlag_alu8 {f : Byte → Byte → Byte → Byte × Byte}
    (h : ∀ x v cc, flag g (f x v cc).2 = flag g cc) (r : Reg8) (m : Src8) :
    Keeps (FlagIs g b) (alu8 r f m) :=
  keeps_bind (keepsFlag_readOperand8 m) fun v => keepsFlag_modify fun s => h _ v s.cc

theorem keepsFlag_test8 {f : Byte → Byte → Byte → Byte × Byte}
    (h : ∀ x v cc, flag g (f x v cc).2 = flag g cc) (r : Reg8) (m : Src8) :
    Keeps (FlagIs g b) (test8 r f m) :=
  keeps_bind (keepsFlag_readOperand8 m) fun v => keepsFlag_modify fun s => h _ v s.cc

theorem keepsFlag_alu16 {f : Word → Word → Byte → Word × Byte}
    (h : ∀ x v cc, flag g (f x v cc).2 = flag g cc) (r : Reg16) (m : Src16) :
    Keeps (FlagIs g b) (alu16 r f m) :=
  keeps_bind (keepsFlag_readOperand16 m) fun v => keepsFlag_modify fun s => h _ v s.cc

theorem keepsFlag_test16 {f : Word → Word → Byte → Word × Byte}
    (h : ∀ x v cc, flag g (f x v cc).2 = flag g cc) (r : Reg16) (m : Src16) :
    Keeps (FlagIs g b) (test16 r f m) :=
  keeps_bind (keepsFlag_readOperand16 m) fun v => keepsFlag_modify fun s => h _ v s.cc

theorem keepsFlag_modifyReg {f : Byte → Byte → Byte × Byte} (h : ∀ v cc, flag g (f v cc).2 = flag g cc)
    (r : Reg8) : Keeps (FlagIs g b) (modifyReg r f) :=
  keepsFlag_modify fun s => h _ s.cc

/-- The CC that a read-modify-write writes comes from the state after its read. -/
theorem keepsFlag_modifyMem {f : Byte → Byte → Byte × Byte} (h : ∀ v cc, flag g (f v cc).2 = flag g cc)
    (e : Ea) : Keeps (FlagIs g b) (modifyMem e f) := by
  refine keeps_bind (keepsFlag_effAddr e) fun ea => keeps_bind (keepsFlag_read8 ea) fun v => ?_
  intro s hs
  have wrote : FlagIs g b (s.withCC (f v s.cc).2) := (h v s.cc).trans hs
  exact keepsFlag_write8 ea (f v s.cc).1 _ wrote

theorem keepsFlag_store8 (hg : g ∉ [.n, .z, .v]) (r : Reg8) (e : Ea) : Keeps (FlagIs g b) (store8 r e) :=
  keeps_bind (keepsFlag_effAddr e) fun _ => keeps_bind keeps_get fun _ =>
    keeps_bind (keepsFlag_write8 _ _) fun _ => keepsFlag_modify fun t => flag_putNZ0_of_notMem hg _ t.cc

theorem keepsFlag_store16 (hg : g ∉ [.n, .z, .v]) (r : Reg16) (e : Ea) :
    Keeps (FlagIs g b) (store16 r e) :=
  keeps_bind (keepsFlag_effAddr e) fun _ => keeps_bind keeps_get fun _ =>
    keeps_bind (keepsFlag_write16 _ _) fun _ => keepsFlag_modify fun t => flag_putNZ0_of_notMem hg _ t.cc

theorem keepsFlag_loadEa {setsZ : Bool} (hg : setsZ = true → g ≠ .z) (r : Reg16) (i : Idx) :
    Keeps (FlagIs g b) (loadEa r setsZ i) := by
  refine keeps_bind (keepsFlag_indexedEa i) fun ea => keepsFlag_modify fun s => ?_
  cases setsZ with
  | false => rfl
  | true => simp [hg rfl]

theorem keepsFlag_pushEntire (hg : g ≠ .e) : Keeps (FlagIs g b) pushEntire :=
  keeps_bind (keepsFlag_modify fun s => by simp [hg]) fun _ => keepsFlag_pushList _ _

theorem keepsFlag_enterHandler {mask : Byte} (h : flag g mask = false) (vector : Word) :
    Keeps (FlagIs g b) (enterHandler mask vector) :=
  keeps_bind (keepsFlag_modify fun s => by simp [flag_or, h]) fun _ =>
    keeps_bind (keepsFlag_read16 vector) fun _ => keepsFlag_modify_cc fun _ => rfl

theorem keepsFlag_takeException {mask : Byte} (hg : g ≠ .e) (h : flag g mask = false) (vector : Word) :
    Keeps (FlagIs g b) (takeException mask vector) :=
  keeps_bind (keepsFlag_pushEntire hg) fun _ => keepsFlag_enterHandler h vector

end Keeping

/-! ## The frame of the flags -/

section Frame

variable {g : Flag} {i : Instr} {body : M Unit} {s t : State}

/-- A meaning of the base set keeps a flag its body keeps. -/
theorem flag_of_perform (h : perform i body s = .next t) (hb : ∀ b, Keeps (FlagIs g b) body) :
    flag g t.cc = flag g s.cc :=
  (hb _).ok (s := s.withCyc (baseCycles s.cfg i)) rfl (finish_eq_next h)

/-- A meaning of the extension set keeps a flag its body keeps: the gate itself changes nothing. -/
theorem flag_of_performGated {tier : Tier} (h : performGated tier i body s = .next t)
    (hb : ∀ b, Keeps (FlagIs g b) body) : flag g t.cc = flag g s.cc := by
  have gate : Keeps (FlagIs g (flag g s.cc)) (gated tier i body) := by
    intro u hu
    cases hc : tierAllowed u.cfg tier with
    | true => rw [gated_allowed hc]; exact hb _ u hu
    | false => rw [gated_refused hc]; exact hu
  exact gate.ok (s := s.withCyc (baseCycles s.cfg i)) rfl (finish_eq_next h)

end Frame

/-- Settles O43: each instruction's body keeps the flags outside its rule, by the shape of the body and the
flags its operation leaves alone. -/
theorem frameOfFlags : Obligations.FrameOfFlags := by
  intro i s t g h hg
  unfold exec at h
  cases i with
  | lda | ldb => exact flag_of_perform h fun _ => keepsFlag_alu8 (fun _ v => flag_ldOp hg v v) _ _
  | ldd | ldx | ldy | ldu | lds =>
    exact flag_of_perform h fun _ => keepsFlag_alu16 (fun _ v => flag_ldOp hg v v) _ _
  | sta | stb => exact flag_of_perform h fun _ => keepsFlag_store8 hg _ _
  | std | stx | sty | stu | sts => exact flag_of_perform h fun _ => keepsFlag_store16 hg _ _
  | leax | leay => exact flag_of_perform h fun _ => keepsFlag_loadEa (fun _ => List.ne_of_not_mem_cons hg) _ _
  | leau | leas => exact flag_of_perform h fun _ => keepsFlag_loadEa Bool.noConfusion _ _
  | clr e =>
    exact flag_of_perform h fun _ => keeps_bind (keepsFlag_effAddr e) fun ea =>
      keeps_bind (keepsFlag_write8 ea 0) fun _ => keepsFlag_modify fun t => flag_clrCC hg t.cc
  | clra | clrb => exact flag_of_perform h fun _ => keepsFlag_modify fun t => flag_clrCC hg t.cc
  | adda | addb => exact flag_of_perform h fun _ => keepsFlag_alu8 (flag_addOp hg) _ _
  | adca | adcb => exact flag_of_perform h fun _ => keepsFlag_alu8 (flag_adcOp hg) _ _
  | suba | subb => exact flag_of_perform h fun _ => keepsFlag_alu8 (flag_subOp hg) _ _
  | sbca | sbcb => exact flag_of_performGated h fun _ => keepsFlag_alu8 (flag_sbcOp hg) _ _
  | cmpa | cmpb => exact flag_of_perform h fun _ => keepsFlag_test8 (flag_subOp hg) _ _
  | addd => exact flag_of_perform h fun _ => keepsFlag_alu16 (flag_addWordOp hg) _ _
  | subd => exact flag_of_perform h fun _ => keepsFlag_alu16 (flag_subWordOp hg) _ _
  | cmpd | cmpx | cmpy | cmpu | cmps =>
    exact flag_of_perform h fun _ => keepsFlag_test16 (flag_subWordOp hg) _ _
  | ora | orb => exact flag_of_perform h fun _ => keepsFlag_alu8 (flag_orOp hg) _ _
  | anda | andb => exact flag_of_perform h fun _ => keepsFlag_alu8 (flag_andOp hg) _ _
  | eora | eorb => exact flag_of_performGated h fun _ => keepsFlag_alu8 (flag_eorOp hg) _ _
  | bita | bitb => exact flag_of_perform h fun _ => keepsFlag_test8 (flag_andOp hg) _ _
  | neg => exact flag_of_perform h fun _ => keepsFlag_modifyMem (flag_negOp hg) _
  | inc => exact flag_of_perform h fun _ => keepsFlag_modifyMem (flag_incOp hg _) _
  | dec => exact flag_of_perform h fun _ => keepsFlag_modifyMem (flag_decOp hg) _
  | asr => exact flag_of_perform h fun _ => keepsFlag_modifyMem (flag_asrOp hg) _
  | lsr => exact flag_of_perform h fun _ => keepsFlag_modifyMem (flag_lsrOp hg) _
  | asl => exact flag_of_perform h fun _ => keepsFlag_modifyMem (flag_aslOp hg) _
  | com => exact flag_of_perform h fun _ => keepsFlag_modifyMem (flag_comOp hg) _
  | rol => exact flag_of_performGated h fun _ => keepsFlag_modifyMem (flag_rolOp hg) _
  | ror => exact flag_of_performGated h fun _ => keepsFlag_modifyMem (flag_rorOp hg) _
  | nega | negb => exact flag_of_perform h fun _ => keepsFlag_modifyReg (flag_negOp hg) _
  | inca | incb => exact flag_of_perform h fun _ => keepsFlag_modifyReg (flag_incOp hg _) _
  | deca | decb => exact flag_of_perform h fun _ => keepsFlag_modifyReg (flag_decOp hg) _
  | asra | asrb => exact flag_of_perform h fun _ => keepsFlag_modifyReg (flag_asrOp hg) _
  | lsra | lsrb => exact flag_of_perform h fun _ => keepsFlag_modifyReg (flag_lsrOp hg) _
  | asla | aslb => exact flag_of_perform h fun _ => keepsFlag_modifyReg (flag_aslOp hg) _
  | coma | comb => exact flag_of_perform h fun _ => keepsFlag_modifyReg (flag_comOp hg) _
  | rola | rolb => exact flag_of_performGated h fun _ => keepsFlag_modifyReg (flag_rolOp hg) _
  | rora | rorb => exact flag_of_performGated h fun _ => keepsFlag_modifyReg (flag_rorOp hg) _
  | daa => exact flag_of_performGated h fun _ => keepsFlag_modifyReg (flag_daaOp hg) _
  | tst e =>
    exact flag_of_perform h fun _ => keeps_bind (keepsFlag_readOperand8 (.mem e)) fun v =>
      keepsFlag_modify fun t => flag_putNZ0_of_notMem hg v t.cc
  | tsta | tstb => exact flag_of_perform h fun _ => keepsFlag_modify fun t => flag_putNZ0_of_notMem hg _ t.cc
  | mul => exact flag_of_performGated h fun _ => keepsFlag_modify fun t => flag_mulCC hg _ t.cc
  | sex => exact flag_of_performGated h fun _ => keepsFlag_modify fun t => flag_sexCC hg _ t.cc
  | abx => exact flag_of_performGated h fun _ => keepsFlag_modify_cc fun _ => rfl
  | jmp e =>
    exact flag_of_perform h fun _ => keeps_bind (keepsFlag_effAddr e) fun _ =>
      keepsFlag_modify_cc fun _ => rfl
  | jsr e => exact flag_of_perform h fun _ => keeps_bind (keepsFlag_effAddr e) fun ea => keepsFlag_call ea
  | bsr | lbsr => exact flag_of_perform h fun _ => keeps_bind keeps_get fun _ => keepsFlag_call _
  | rts => exact flag_of_perform h fun _ => keepsFlag_pullIf16 _ _ _
  | nop => exact flag_of_perform h fun _ => keeps_pure _
  | bra | brn | bhi | bls | bcc | bcs | bne | beq | bvc | bvs | bpl | bmi | bge | blt | bgt | ble
  | lbra | lbrn | lbhi | lbls | lbcc | lbcs | lbne | lbeq | lbvc | lbvs | lbpl | lbmi | lbge | lblt
  | lbgt | lble => exact flag_of_perform h fun _ => keepsFlag_branch _ _
  | pshs | pshu => exact flag_of_perform h fun _ => keepsFlag_pushRegs _ _
  | puls | pulu => exact flag_of_perform h fun _ => keepsFlag_pullRegs _ hg
  | exg => exact flag_of_perform h fun _ => keepsFlag_exchange hg
  | tfr => exact flag_of_perform h fun _ => keepsFlag_copy hg
  | swi =>
    exact flag_of_performGated h fun _ =>
      keepsFlag_takeException (List.ne_of_not_mem_cons hg) (flag_maskIF hg) _
  | swi2 | swi3 =>
    exact flag_of_performGated h fun _ =>
      keepsFlag_takeException (List.ne_of_not_mem_cons hg) BitVec.getLsbD_zero _
  | sync => exact flag_of_performGated h fun _ => keepsFlag_modify_cc fun _ => rfl
  | orcc | andcc | rti | cwai => exact absurd (mem_allFlags g) hg

end Sys2Proof.Machine

/-!
O9 and O42, the state after reset and the frame of the registers (spec/10_state.md R33, R43). As with the flags,
the invariant carried through a meaning is that one named register holds one value. Each operation keeps it for
the registers outside the names it writes, and those names are put together as `regsWritten` puts them together,
so that each instruction's own list is the hypothesis its shape asks for.
-/
namespace Sys2Proof.Machine

/-! ## The state after reset is safe -/

/-- R43: every PSG register is 0 after reset. -/
theorem psgReset_reg (a : BitVec 4) : Psg.reset.reg a = 0 := by
  simp [Psg.reg, Psg.reset, Vector.get]

theorem viaSafe_reset : ViaSafe Via.reset where
  acr := rfl
  ifr := rfl
  pcr := .inl ⟨rfl, rfl, rfl⟩
  zero := Bool.noConfusion
  pb7 := rfl
  lit := List.forall_mem_nil _

theorem psgSafe_reset : PsgSafe Psg.reset where
  div := by decide
  masked a := by rw [psgReset_reg]; exact BitVec.zero_and
  samples := List.forall_mem_nil _

/-- Settles O9: the VIA and the PSG are safe after reset, and the machine starts with no stored byte, no wait
and no changed base count. -/
theorem resetIsSafe : Obligations.ResetIsSafe where
  memWf := rfl
  memKeys := List.forall_mem_nil _
  via := viaSafe_reset
  psg := psgSafe_reset
  mode := rfl
  wait h := absurd rfl h
  ier _ := rfl
  cycles := rfl

/-! ## What the updates of State leave of the named registers -/

section NamedRegisters

variable (r : RegName) (s : State)

@[simp] theorem State.named_withCC (v : Byte) : (s.withCC v).named r = s.named r := by cases r <;> rfl
@[simp] theorem State.named_withPC (v : Word) : (s.withPC v).named r = s.named r := by cases r <;> rfl
@[simp] theorem State.named_withCyc (n : Nat) : (s.withCyc n).named r = s.named r := by cases r <;> rfl
@[simp] theorem State.named_withWait (w : WaitState) : (s.withWait w).named r = s.named r := by
  cases r <;> rfl
@[simp] theorem State.named_withMem (m : Memory) : (s.withMem m).named r = s.named r := by cases r <;> rfl
@[simp] theorem State.named_withVia (v : Via) : (s.withVia v).named r = s.named r := by cases r <;> rfl
@[simp] theorem State.named_withPsg (p : Psg) : (s.withPsg p).named r = s.named r := by cases r <;> rfl

variable {r}

/-- A write of an 8-bit register changes the names it stands for alone. -/
theorem State.named_set8 {q : Reg8} (hr : r ∉ names8 q) (v : Byte) : (s.set8 q v).named r = s.named r := by
  cases r with
  | x | y | u | s => simp [State.named]
  | a | b | dp => cases q <;> simp_all [names8, State.named]

/-- A write of a 16-bit register changes the names it stands for alone, D standing for A and B (R31). -/
theorem State.named_set16 {q : Reg16} (hr : r ∉ names16 q) (v : Word) :
    (s.set16 q v).named r = s.named r := by
  cases r with
  | dp => simp [State.named]
  | a | b | x | y | u | s => cases q <;> simp_all [names16, State.named]

/-- Every name is among them all. -/
theorem mem_allNames (r : RegName) : r ∈ allNames := by cases r <;> decide

end NamedRegisters

/-! ## Keeping one register at one value -/

/-- The register named `r` holds the value `v`. -/
def RegIs (r : RegName) (v : Word) (s : State) : Prop := s.named r = v

section Keeping

variable {r : RegName} {v : Word}

theorem keepsReg_modify {f : State → State} (h : ∀ s, (f s).named r = s.named r) :
    Keeps (RegIs r v) (modify f) :=
  keeps_modify fun s hs => (h s).trans hs

theorem keepsReg_set8 {q : Reg8} (hr : r ∉ names8 q) (f : State → Byte) :
    Keeps (RegIs r v) (modify fun s => s.set8 q (f s)) :=
  keepsReg_modify fun s => s.named_set8 hr (f s)

theorem keepsReg_set16 {q : Reg16} (hr : r ∉ names16 q) (f : State → Word) :
    Keeps (RegIs r v) (modify fun s => s.set16 q (f s)) :=
  keepsReg_modify fun s => s.named_set16 hr (f s)

/-! ### The bus -/

theorem keepsReg_addCyc (n : Nat) : Keeps (RegIs r v) (addCyc n) := keepsReg_modify fun s => s.named_withCyc r _

theorem keepsReg_read8 (a : Word) : Keeps (RegIs r v) (read8 a) := by
  intro s hs
  cases e : read8 a s with
  | ok x t => obtain ⟨w, rfl⟩ := read8_frame e; exact (s.named_withVia r w).trans hs
  | error k t => rw [read8_error e]; exact hs

theorem keepsReg_write8 (a : Word) (x : Byte) : Keeps (RegIs r v) (write8 a x) := by
  intro s hs
  cases e : write8 a x s with
  | ok u t =>
    obtain ⟨m, rfl⟩ | ⟨-, w, p, rfl⟩ := write8_frame e
    · exact (s.named_withMem r m).trans hs
    · exact ((s.withVia w).named_withPsg r p).trans ((s.named_withVia r w).trans hs)
  | error k t => rw [write8_error e]; exact hs

theorem keepsReg_read16 (a : Word) : Keeps (RegIs r v) (read16 a) :=
  keeps_bind (keepsReg_read8 a) fun _ => keeps_bind (keepsReg_read8 _) fun _ => keeps_pure _

theorem keepsReg_write16 (a x : Word) : Keeps (RegIs r v) (write16 a x) :=
  keeps_bind (keepsReg_write8 a _) fun _ => keepsReg_write8 _ _

/-! ### Stacks: only the stack pointer moves, and a pull writes what it selects -/

section Stack

variable {p : Stk} (hp : r ∉ names16 (stkReg p))
include hp

theorem keepsReg_push8 (x : Byte) : Keeps (RegIs r v) (push8 p x) :=
  keeps_bind (keepsReg_set16 hp _) fun _ => keeps_bind keeps_get fun _ => keepsReg_write8 _ _

theorem keepsReg_push16 (x : Word) : Keeps (RegIs r v) (push16 p x) :=
  keeps_bind (keepsReg_push8 hp _) fun _ => keepsReg_push8 hp _

theorem keepsReg_pull8 : Keeps (RegIs r v) (pull8 p) :=
  keeps_bind keeps_get fun _ => keeps_bind (keepsReg_read8 _) fun _ =>
    keeps_bind (keepsReg_set16 hp _) fun _ => keeps_pure _

theorem keepsReg_pull16 : Keeps (RegIs r v) (pull16 p) :=
  keeps_bind (keepsReg_pull8 hp) fun _ => keeps_bind (keepsReg_pull8 hp) fun _ => keeps_pure _

theorem keepsReg_pushIf8 (sel : Bool) (q : Reg8) : Keeps (RegIs r v) (pushIf8 p sel q) :=
  keeps_ite (keeps_bind keeps_get fun _ => keepsReg_push8 hp _) (keeps_pure _)

theorem keepsReg_pushIf16 (sel : Bool) (q : Reg16) : Keeps (RegIs r v) (pushIf16 p sel q) :=
  keeps_ite (keeps_bind keeps_get fun _ => keepsReg_push16 hp _) (keeps_pure _)

theorem keepsReg_pullIf8 {sel : Bool} {q : Reg8} (hq : r ∉ if sel then names8 q else []) :
    Keeps (RegIs r v) (pullIf8 p sel q) := by
  cases sel with
  | false => exact keeps_pure _
  | true => exact keeps_bind (keepsReg_pull8 hp) fun x => keepsReg_set8 hq _

theorem keepsReg_pullIf16 {sel : Bool} {q : Reg16} (hq : r ∉ if sel then names16 q else []) :
    Keeps (RegIs r v) (pullIf16 p sel q) := by
  cases sel with
  | false => exact keeps_pure _
  | true => exact keeps_bind (keepsReg_pull16 hp) fun x => keepsReg_set16 hq _

theorem keepsReg_pushList (m : Byte) : Keeps (RegIs r v) (pushList p m) :=
  keeps_bind (keepsReg_pushIf16 hp _ _) fun _ => keeps_bind (keepsReg_pushIf16 hp _ _) fun _ =>
  keeps_bind (keepsReg_pushIf16 hp _ _) fun _ => keeps_bind (keepsReg_pushIf16 hp _ _) fun _ =>
  keeps_bind (keepsReg_pushIf8 hp _ _) fun _ => keeps_bind (keepsReg_pushIf8 hp _ _) fun _ =>
  keeps_bind (keepsReg_pushIf8 hp _ _) fun _ => keepsReg_pushIf8 hp _ _

theorem keepsReg_pushRegs (m : Byte) : Keeps (RegIs r v) (pushRegs p m) :=
  keeps_bind (keepsReg_pushList hp m) fun _ => keeps_bind keeps_get fun _ => keepsReg_addCyc _

end Stack

/-- A pull writes the registers its list selects and moves its stack pointer (spec/45_stack_transfer.md R345);
CC and PC have no name here. -/
theorem keepsReg_pullList {p : Stk} {m : Byte} (hr : r ∉ pulledNames p m) :
    Keeps (RegIs r v) (pullList p m) := by
  simp only [pulledNames, List.mem_append, not_or] at hr
  obtain ⟨⟨⟨⟨⟨⟨hp, ha⟩, hb⟩, hdp⟩, hx⟩, hy⟩, hother⟩ := hr
  have hcc : r ∉ if m.getLsbD 0 then names8 .cc else [] := by simp [names8]
  have hpc : r ∉ if m.getLsbD 7 then names16 .pc else [] := by simp [names16]
  exact
    keeps_bind (keepsReg_pullIf8 hp hcc) fun _ => keeps_bind (keepsReg_pullIf8 hp ha) fun _ =>
    keeps_bind (keepsReg_pullIf8 hp hb) fun _ => keeps_bind (keepsReg_pullIf8 hp hdp) fun _ =>
    keeps_bind (keepsReg_pullIf16 hp hx) fun _ => keeps_bind (keepsReg_pullIf16 hp hy) fun _ =>
    keeps_bind (keepsReg_pullIf16 hp hother) fun _ => keepsReg_pullIf16 hp hpc

theorem keepsReg_pullRegs {p : Stk} {m : Byte} (hr : r ∉ pulledNames p m) :
    Keeps (RegIs r v) (pullRegs p m) :=
  keeps_bind (keepsReg_pullList hr) fun _ => keeps_bind keeps_get fun _ => keepsReg_addCyc _

/-! ### Addressing: only an auto-increment or auto-decrement moves its register (spec/40_addressing.md R145) -/

theorem keepsReg_indexedAt (q : IdxReg) (n : Word) (c : Nat) : Keeps (RegIs r v) (indexedAt q n c) :=
  keeps_bind keeps_get fun _ => keeps_bind (keepsReg_addCyc c) fun _ => keeps_pure _

theorem keepsReg_postIncrement {q : IdxReg} (hr : r ∉ names16 (idxReg16 q)) (n : Word) (c : Nat) :
    Keeps (RegIs r v) (postIncrement q n c) :=
  keeps_bind keeps_get fun _ => keeps_bind (keepsReg_set16 hr _) fun _ =>
    keeps_bind (keepsReg_addCyc c) fun _ => keeps_pure _

theorem keepsReg_preDecrement {q : IdxReg} (hr : r ∉ names16 (idxReg16 q)) (n : Word) (c : Nat) :
    Keeps (RegIs r v) (preDecrement q n c) :=
  keeps_bind (keepsReg_set16 hr _) fun _ => keeps_bind (keepsReg_addCyc c) fun _ =>
    keeps_bind keeps_get fun _ => keeps_pure _

theorem keepsReg_pcRelative (n : Word) (c : Nat) : Keeps (RegIs r v) (pcRelative n c) :=
  keeps_bind keeps_get fun _ => keeps_bind (keepsReg_addCyc c) fun _ => keeps_pure _

theorem keepsReg_indirect (ind : Bool) (ea : Word) : Keeps (RegIs r v) (indirect ind ea) :=
  keeps_ite (keeps_bind (keepsReg_read16 ea) fun _ =>
    keeps_bind (keepsReg_addCyc 3) fun _ => keeps_pure _) (keeps_pure _)

theorem keepsReg_indexedEa {i : Idx} (hr : r ∉ movedIdx i) : Keeps (RegIs r v) (indexedEa i) := by
  cases i with
  | off5 => exact keepsReg_indexedAt _ _ _
  | inc1 => exact keepsReg_postIncrement hr _ _
  | dec1 => exact keepsReg_preDecrement hr _ _
  | inc2 => exact keeps_bind (keepsReg_postIncrement hr _ _) fun _ => keepsReg_indirect _ _
  | dec2 => exact keeps_bind (keepsReg_preDecrement hr _ _) fun _ => keepsReg_indirect _ _
  | zero | off8 | off16 =>
    exact keeps_bind (keepsReg_indexedAt _ _ _) fun _ => keepsReg_indirect _ _
  | accA | accB | accD =>
    exact keeps_bind keeps_get fun _ =>
      keeps_bind (keepsReg_indexedAt _ _ _) fun _ => keepsReg_indirect _ _
  | pc8 | pc16 => exact keeps_bind (keepsReg_pcRelative _ _) fun _ => keepsReg_indirect _ _
  | extInd =>
    exact keeps_bind (keepsReg_read16 _) fun _ => keeps_bind (keepsReg_addCyc 5) fun _ => keeps_pure _

theorem keepsReg_effAddr {e : Ea} (hr : r ∉ movedEa e) : Keeps (RegIs r v) (effAddr e) := by
  cases e with
  | dir => exact keeps_bind keeps_get fun _ => keeps_pure _
  | idx => exact keepsReg_indexedEa hr
  | ext => exact keeps_pure _

theorem keepsReg_readOperand8 {m : Src8} (hr : r ∉ moved8 m) : Keeps (RegIs r v) (readOperand8 m) := by
  cases m with
  | imm => exact keeps_pure _
  | mem e => exact keeps_bind (keepsReg_effAddr hr) fun _ => keepsReg_read8 _

theorem keepsReg_readOperand16 {m : Src16} (hr : r ∉ moved16 m) : Keeps (RegIs r v) (readOperand16 m) := by
  cases m with
  | imm => exact keeps_pure _
  | mem e => exact keeps_bind (keepsReg_effAddr hr) fun _ => keepsReg_read16 _

/-! ### Shapes of instructions, for the registers outside their destination and their mode's -/

theorem keepsReg_alu8 {q : Reg8} {m : Src8} (hr : r ∉ names8 q ++ moved8 m)
    (f : Byte → Byte → Byte → Byte × Byte) : Keeps (RegIs r v) (alu8 q f m) := by
  obtain ⟨hq, hm⟩ := not_or.mp (mt List.mem_append.mpr hr)
  exact keeps_bind (keepsReg_readOperand8 hm) fun x => keepsReg_modify fun s =>
    (State.named_withCC r _ _).trans (s.named_set8 hq _)

theorem keepsReg_alu16 {q : Reg16} {m : Src16} (hr : r ∉ names16 q ++ moved16 m)
    (f : Word → Word → Byte → Word × Byte) : Keeps (RegIs r v) (alu16 q f m) := by
  obtain ⟨hq, hm⟩ := not_or.mp (mt List.mem_append.mpr hr)
  exact keeps_bind (keepsReg_readOperand16 hm) fun x => keepsReg_modify fun s =>
    (State.named_withCC r _ _).trans (s.named_set16 hq _)

theorem keepsReg_test8 {m : Src8} (hr : r ∉ moved8 m) (q : Reg8) (f : Byte → Byte → Byte → Byte × Byte) :
    Keeps (RegIs r v) (test8 q f m) :=
  keeps_bind (keepsReg_readOperand8 hr) fun _ => keepsReg_modify fun s => s.named_withCC r _

theorem keepsReg_test16 {m : Src16} (hr : r ∉ moved16 m) (q : Reg16) (f : Word → Word → Byte → Word × Byte) :
    Keeps (RegIs r v) (test16 q f m) :=
  keeps_bind (keepsReg_readOperand16 hr) fun _ => keepsReg_modify fun s => s.named_withCC r _

theorem keepsReg_modifyReg {q : Reg8} (hr : r ∉ names8 q) (f : Byte → Byte → Byte × Byte) :
    Keeps (RegIs r v) (modifyReg q f) :=
  keepsReg_modify fun s => (State.named_withCC r _ _).trans (s.named_set8 hr _)

theorem keepsReg_modifyMem {e : Ea} (hr : r ∉ movedEa e) (f : Byte → Byte → Byte × Byte) :
    Keeps (RegIs r v) (modifyMem e f) :=
  keeps_bind (keepsReg_effAddr hr) fun _ => keeps_bind (keepsReg_read8 _) fun _ =>
    keeps_bind keeps_get fun _ => keeps_bind (keepsReg_modify fun s => s.named_withCC r _) fun _ =>
    keepsReg_write8 _ _

theorem keepsReg_store8 {e : Ea} (hr : r ∉ movedEa e) (q : Reg8) : Keeps (RegIs r v) (store8 q e) :=
  keeps_bind (keepsReg_effAddr hr) fun _ => keeps_bind keeps_get fun _ =>
    keeps_bind (keepsReg_write8 _ _) fun _ => keepsReg_modify fun s => s.named_withCC r _

theorem keepsReg_store16 {e : Ea} (hr : r ∉ movedEa e) (q : Reg16) : Keeps (RegIs r v) (store16 q e) :=
  keeps_bind (keepsReg_effAddr hr) fun _ => keeps_bind keeps_get fun _ =>
    keeps_bind (keepsReg_write16 _ _) fun _ => keepsReg_modify fun s => s.named_withCC r _

theorem keepsReg_loadEa {q : Reg16} {i : Idx} (hr : r ∉ names16 q ++ movedIdx i) (setsZ : Bool) :
    Keeps (RegIs r v) (loadEa q setsZ i) := by
  obtain ⟨hq, hi⟩ := not_or.mp (mt List.mem_append.mpr hr)
  exact keeps_bind (keepsReg_indexedEa hi) fun ea => keepsReg_modify fun s =>
    (State.named_withCC r _ _).trans (s.named_set16 hq ea)

theorem keepsReg_branch (p : Cond) (off : Word) : Keeps (RegIs r v) (branch p off) :=
  keeps_bind keeps_get fun _ => keeps_ite
    (keeps_bind (keepsReg_modify fun s => s.named_withPC r _) fun _ => keepsReg_addCyc _) (keeps_pure _)

theorem keepsReg_call (hr : r ∉ names16 .s) (target : Word) : Keeps (RegIs r v) (call target) :=
  keeps_bind keeps_get fun _ => keeps_bind (keepsReg_push16 (p := .s) hr _) fun _ =>
    keepsReg_modify fun s => s.named_withPC r target

theorem keepsReg_jsr {e : Ea} (hr : r ∉ names16 .s ++ movedEa e) :
    Keeps (RegIs r v) (do let ea ← effAddr e; call ea) := by
  obtain ⟨hs, he⟩ := not_or.mp (mt List.mem_append.mpr hr)
  exact keeps_bind (keepsReg_effAddr he) fun ea => keepsReg_call hs ea

/-- EXG writes both its registers. -/
theorem keepsReg_exchange {r1 r2 : XReg} (hr : r ∉ namesX r1 ++ namesX r2) :
    Keeps (RegIs r v) (transfer r1 r2 exchange8 exchange16) := by
  obtain ⟨h1, h2⟩ := not_or.mp (mt List.mem_append.mpr hr)
  cases r1 <;> cases r2
  case r8.r8 => exact keepsReg_modify fun s => (State.named_set8 _ h2 _).trans (s.named_set8 h1 _)
  case r16.r16 => exact keepsReg_modify fun s => (State.named_set16 _ h2 _).trans (s.named_set16 h1 _)
  all_goals exact keeps_raise _

/-- TFR writes its second register alone. -/
theorem keepsReg_copy {r1 r2 : XReg} (hr : r ∉ namesX r2) :
    Keeps (RegIs r v) (transfer r1 r2 copy8 copy16) := by
  cases r1 <;> cases r2
  case r8.r8 => exact keepsReg_modify fun s => s.named_set8 hr _
  case r16.r16 => exact keepsReg_modify fun s => s.named_set16 hr _
  all_goals exact keeps_raise _

theorem keepsReg_pushEntire (hr : r ∉ names16 .s) : Keeps (RegIs r v) pushEntire :=
  keeps_bind (keepsReg_modify fun s => s.named_withCC r _) fun _ => keepsReg_pushList (p := .s) hr _

theorem keepsReg_enterHandler (mask : Byte) (vector : Word) : Keeps (RegIs r v) (enterHandler mask vector) :=
  keeps_bind (keepsReg_modify fun s => s.named_withCC r _) fun _ =>
    keeps_bind (keepsReg_read16 vector) fun _ => keepsReg_modify fun s => s.named_withPC r _

theorem keepsReg_takeException (hr : r ∉ names16 .s) (mask : Byte) (vector : Word) :
    Keeps (RegIs r v) (takeException mask vector) :=
  keeps_bind (keepsReg_pushEntire hr) fun _ => keepsReg_enterHandler mask vector

end Keeping

/-! ## The frame of the registers -/

/-- The gate of the extension set changes nothing: it runs the body or faults (spec/46_extension.md R370). -/
theorem keeps_gated {P : State → Prop} {body : M Unit} (h : Keeps P body) (tier : Tier) (i : Instr) :
    Keeps P (gated tier i body) := by
  intro s hs
  cases hc : tierAllowed s.cfg tier with
  | true => rw [gated_allowed hc]; exact h s hs
  | false => rw [gated_refused hc]; exact hs

section Frame

variable {r : RegName} {i : Instr} {body : M Unit} {s t : State}

/-- A meaning of the base set keeps a register its body keeps. -/
theorem named_of_perform (h : perform i body s = .next t) (hb : ∀ v, Keeps (RegIs r v) body) :
    t.named r = s.named r :=
  (hb _).ok (s.named_withCyc r (baseCycles s.cfg i)) (finish_eq_next h)

/-- A meaning of the extension set keeps a register its body keeps. -/
theorem named_of_performGated {tier : Tier} (h : performGated tier i body s = .next t)
    (hb : ∀ v, Keeps (RegIs r v) body) : t.named r = s.named r :=
  (keeps_gated (hb _) tier i).ok (s.named_withCyc r (baseCycles s.cfg i)) (finish_eq_next h)

end Frame

/-- Settles O42: each instruction's body keeps the registers outside its destination, the index register its
mode moves and the stack pointer it moves, by the shape of the body. -/
theorem frameOfRegisters : Obligations.FrameOfRegisters := by
  intro i s t r h hr
  unfold exec at h
  cases i with
  | lda | ldb | adda | addb | adca | adcb | suba | subb | ora | orb | anda | andb =>
    exact named_of_perform h fun _ => keepsReg_alu8 hr _
  | eora | eorb | sbca | sbcb => exact named_of_performGated h fun _ => keepsReg_alu8 hr _
  | ldd | ldx | ldy | ldu | lds | addd | subd => exact named_of_perform h fun _ => keepsReg_alu16 hr _
  | cmpa | cmpb | bita | bitb => exact named_of_perform h fun _ => keepsReg_test8 hr _ _
  | cmpd | cmpx | cmpy | cmpu | cmps => exact named_of_perform h fun _ => keepsReg_test16 hr _ _
  | sta | stb => exact named_of_perform h fun _ => keepsReg_store8 hr _
  | std | stx | sty | stu | sts => exact named_of_perform h fun _ => keepsReg_store16 hr _
  | leax | leay | leau | leas => exact named_of_perform h fun _ => keepsReg_loadEa hr _
  | neg | inc | dec | asr | lsr | asl | com => exact named_of_perform h fun _ => keepsReg_modifyMem hr _
  | rol | ror => exact named_of_performGated h fun _ => keepsReg_modifyMem hr _
  | nega | negb | inca | incb | deca | decb | asra | asrb | lsra | lsrb | asla | aslb | coma | comb =>
    exact named_of_perform h fun _ => keepsReg_modifyReg hr _
  | rola | rolb | rora | rorb | daa => exact named_of_performGated h fun _ => keepsReg_modifyReg hr _
  | clr =>
    exact named_of_perform h fun _ => keeps_bind (keepsReg_effAddr hr) fun ea =>
      keeps_bind (keepsReg_write8 ea 0) fun _ => keepsReg_modify fun u => u.named_withCC r _
  | clra | clrb =>
    exact named_of_perform h fun _ => keepsReg_modify fun u =>
      (State.named_withCC r _ _).trans (u.named_set8 hr 0)
  | tst e =>
    exact named_of_perform h fun _ => keeps_bind (keepsReg_readOperand8 (m := .mem e) hr) fun _ =>
      keepsReg_modify fun u => u.named_withCC r _
  | tsta | tstb | orcc | andcc =>
    exact named_of_perform h fun _ => keepsReg_modify fun u => u.named_withCC r _
  | mul =>
    exact named_of_performGated h fun _ => keepsReg_modify fun u =>
      (State.named_withCC r _ _).trans (u.named_set16 (q := .d) hr _)
  | sex =>
    exact named_of_performGated h fun _ => keepsReg_modify fun u =>
      (State.named_withCC r _ _).trans (u.named_set8 (q := .a) hr _)
  | abx => exact named_of_performGated h fun _ => keepsReg_set16 hr _
  | jmp =>
    exact named_of_perform h fun _ => keeps_bind (keepsReg_effAddr hr) fun ea =>
      keepsReg_modify fun u => u.named_withPC r ea
  | jsr => exact named_of_perform h fun _ => keepsReg_jsr hr
  | bsr | lbsr => exact named_of_perform h fun _ => keeps_bind keeps_get fun _ => keepsReg_call hr _
  | rts => exact named_of_perform h fun _ => keepsReg_pullIf16 (p := .s) hr List.not_mem_nil
  | nop => exact named_of_perform h fun _ => keeps_pure _
  | bra | brn | bhi | bls | bcc | bcs | bne | beq | bvc | bvs | bpl | bmi | bge | blt | bgt | ble
  | lbra | lbrn | lbhi | lbls | lbcc | lbcs | lbne | lbeq | lbvc | lbvs | lbpl | lbmi | lbge | lblt
  | lbgt | lble => exact named_of_perform h fun _ => keepsReg_branch _ _
  | pshs | pshu => exact named_of_perform h fun _ => keepsReg_pushRegs hr _
  | puls | pulu => exact named_of_perform h fun _ => keepsReg_pullRegs hr
  | exg => exact named_of_perform h fun _ => keepsReg_exchange hr
  | tfr => exact named_of_perform h fun _ => keepsReg_copy hr
  | swi | swi2 | swi3 => exact named_of_performGated h fun _ => keepsReg_takeException hr _ _
  | cwai =>
    exact named_of_performGated h fun _ => keeps_bind (keepsReg_modify fun u => u.named_withCC r _) fun _ =>
      keeps_bind (keepsReg_pushEntire hr) fun _ => keepsReg_modify fun u => u.named_withWait r _
  | sync => exact named_of_performGated h fun _ => keepsReg_modify fun u => u.named_withWait r _
  | rti => exact absurd (mem_allNames r) hr

end Sys2Proof.Machine

/-!
O48, the regions of the address space (spec/20_memory.md R62 to R69). Which region an address lies in fixes what
the bus does with it: RAM is two copies of 1 KiB that share their cells, cartridge, BIOS and unmapped addresses
discard a write, and the flat bus stores every byte at its own address.
-/
namespace Sys2Proof.Machine

/-! ## Regions -/

theorem region_vectrex_eq_ram_iff (a : Word) :
    region .vectrex a = .ram ↔ 0xC800 ≤ a.toNat ∧ a.toNat < 0xD000 := by
  simp only [region]
  split_ifs <;> simp <;> omega

theorem region_vectrex_eq_via_iff (a : Word) :
    region .vectrex a = .via ↔ 0xD000 ≤ a.toNat ∧ a.toNat < 0xD800 := by
  simp only [region]
  split_ifs <;> simp <;> omega

theorem region_vectrex_eq_unmapped_iff (a : Word) :
    region .vectrex a = .unmapped ↔
      0x8000 ≤ a.toNat ∧ a.toNat < 0xC800 ∨ 0xD800 ≤ a.toNat ∧ a.toNat < 0xE000 := by
  simp only [region]
  split_ifs <;> simp <;> omega

theorem storable_iff (bus : BusConfig) (a : Word) :
    storable bus a = true ↔ region bus a = .ram ∨ region bus a = .flat := by
  unfold storable
  cases region bus a <;> simp

/-- The Vectrex map stores in RAM alone. -/
theorem storable_vectrex_iff (a : Word) :
    storable .vectrex a = true ↔ 0xC800 ≤ a.toNat ∧ a.toNat < 0xD000 := by
  have notFlat : region .vectrex a ≠ .flat := by
    simp only [region]
    split_ifs <;> simp
  rw [storable_iff, or_iff_left notFlat, region_vectrex_eq_ram_iff]

/-! ## The two copies of RAM (R66) -/

theorem cellKey_of_ram {bus : BusConfig} {a : Word} (h : region bus a = .ram) :
    cellKey bus a = 0xC800 + a.toNat % 0x400 := by
  simp only [cellKey, h]

theorem cellKey_of_ne_ram {bus : BusConfig} {a : Word} (h : region bus a ≠ .ram) :
    cellKey bus a = a.toNat := by
  unfold cellKey
  split
  · contradiction
  · rfl

/-- Flipping bit 10 of a RAM address keeps its place in the 1 KiB and goes to the other copy. -/
theorem ramCopy_toNat {a : Word} (hl : 0xC800 ≤ a.toNat) (hh : a.toNat < 0xD000) :
    (a ^^^ 0x0400).toNat = if a.toNat < 0xCC00 then a.toNat + 0x400 else a.toNat - 0x400 := by
  have place : (a ^^^ 0x0400).toNat % 2 ^ 10 = a.toNat % 2 ^ 10 := by
    rw [BitVec.toNat_xor, Nat.xor_mod_two_pow]; simp
  have copy : (a ^^^ 0x0400).toNat / 2 ^ 10 = a.toNat / 2 ^ 10 ^^^ 1 := by
    rw [BitVec.toNat_xor, Nat.xor_div_two_pow]; rfl
  obtain first | second : a.toNat / 2 ^ 10 = 50 ∨ a.toNat / 2 ^ 10 = 51 := by omega
  · rw [first, show 50 ^^^ 1 = 51 from rfl] at copy
    rw [if_pos (by omega)]; omega
  · rw [second, show 51 ^^^ 1 = 50 from rfl] at copy
    rw [if_neg (by omega)]; omega

/-- The two copies of a RAM byte are one cell, and no other address has it. -/
theorem cellKey_eq_of_ram_iff {a : Word} (b : Word) (hl : 0xC800 ≤ a.toNat) (hh : a.toNat < 0xD000) :
    cellKey .vectrex b = cellKey .vectrex a ↔ b = a ∨ b = a ^^^ 0x0400 := by
  have keyA := cellKey_of_ram ((region_vectrex_eq_ram_iff a).mpr ⟨hl, hh⟩)
  have copy := ramCopy_toNat hl hh
  rw [← BitVec.toNat_inj, ← BitVec.toNat_inj, keyA, copy]
  by_cases hb : region .vectrex b = .ram
  · rw [cellKey_of_ram hb]
    rw [region_vectrex_eq_ram_iff] at hb
    split_ifs <;> omega
  · rw [cellKey_of_ne_ram hb]
    rw [region_vectrex_eq_ram_iff] at hb
    split_ifs <;> omega

theorem cellKey_ramCopy {a : Word} (hl : 0xC800 ≤ a.toNat) (hh : a.toNat < 0xD000) :
    cellKey .vectrex (a ^^^ 0x0400) = cellKey .vectrex a :=
  (cellKey_eq_of_ram_iff _ hl hh).mpr (.inr rfl)

/-! ## Accesses of a region -/

/-- A write that is stored answers with the byte in its cell. -/
theorem write8_of_storable {s : State} {a : Word} (h : storable s.cfg.bus a = true) (v : Byte) :
    write8 a v s = .ok ⟨⟩ (s.withMem (s.mem.put (cellKey s.cfg.bus a) v)) := by
  have notVia : region s.cfg.bus a ≠ .via := fun e => by simp [storable, e] at h
  rw [write8_avoids notVia, if_pos h]

/-- A write outside the VIA's page that is not stored changes nothing. -/
theorem write8_discarded {s : State} {a : Word} (hv : region s.cfg.bus a ≠ .via)
    (h : storable s.cfg.bus a = false) (v : Byte) : write8 a v s = .ok ⟨⟩ s := by
  rw [write8_avoids hv, h]
  rfl

/-- A read outside the VIA's page answers and changes nothing. -/
theorem read8_avoids {s : State} {a : Word} (hv : region s.cfg.bus a ≠ .via) : ∃ x, read8 a s = .ok x s := by
  obtain ⟨x, hx⟩ := Option.ne_none_iff_exists'.mp (mt (peek_eq_none s a).mp hv)
  exact ⟨x, read8_of_peek hx⟩

theorem peek_of_unmapped {s : State} {a : Word} (h : region s.cfg.bus a = .unmapped) :
    s.peek a = some s.cfg.unmappedReadValue := by
  simp only [State.peek, h]

/-- RAM addresses with one cell read alike. -/
theorem peek_ramCopy {s : State} {a : Word} (hbus : s.cfg.bus = .vectrex) (hl : 0xC800 ≤ a.toNat)
    (hh : a.toNat < 0xD000) : s.peek (a ^^^ 0x0400) = s.peek a := by
  have copy := ramCopy_toNat hl hh
  have ramA := (region_vectrex_eq_ram_iff a).mpr ⟨hl, hh⟩
  have ramCopy : region .vectrex (a ^^^ 0x0400) = .ram := by
    rw [region_vectrex_eq_ram_iff, copy]
    split_ifs <;> omega
  simp only [State.peek, hbus, ramA, ramCopy, cellKey_ramCopy hl hh]

/-! ## The clauses of the statement -/

theorem write8_ram {s : State} {a : Word} (hm : s.mem.wf = true) (hbus : s.cfg.bus = .vectrex)
    (hl : 0xC800 ≤ a.toNat) (hh : a.toNat < 0xD000) (b : Word) (v : Byte) :
    ∃ t, write8 a v s = .ok ⟨⟩ t ∧ t.peek a = some v ∧ t.peek (a ^^^ 0x0400) = some v ∧
      (b ≠ a → b ≠ a ^^^ 0x0400 → t.peek b = s.peek b) := by
  have stored : storable s.cfg.bus a = true := by rw [hbus]; exact (storable_vectrex_iff a).mpr ⟨hl, hh⟩
  have same := peek_put_same s a v hm stored
  refine ⟨_, write8_of_storable stored v, same, ?_, fun hb hcopy => ?_⟩
  · rw [peek_ramCopy (by exact hbus) hl hh]; exact same
  · refine peek_put_other s a b v ?_
    rw [hbus, Ne, cellKey_eq_of_ram_iff b hl hh]
    exact not_or.mpr ⟨hb, hcopy⟩

/-- Cartridge, BIOS and the unmapped ranges together are the Vectrex map outside RAM and the VIA's page. -/
theorem access_rom {s : State} {a : Word} (hbus : s.cfg.bus = .vectrex)
    (ha : a.toNat < 0xC800 ∨ 0xD800 ≤ a.toNat) (v : Byte) :
    write8 a v s = .ok ⟨⟩ s ∧ ∃ x, read8 a s = .ok x s := by
  have notVia : region s.cfg.bus a ≠ .via := by rw [hbus, Ne, region_vectrex_eq_via_iff]; omega
  have notStored : storable s.cfg.bus a = false := by
    rw [Bool.eq_false_iff, Ne, hbus, storable_vectrex_iff]
    omega
  exact ⟨write8_discarded notVia notStored v, read8_avoids notVia⟩

theorem write8_flat {s : State} (hm : s.mem.wf = true) (hbus : s.cfg.bus = .flatTest) (a b : Word) (v : Byte) :
    ∃ t, write8 a v s = .ok ⟨⟩ t ∧ t.peek a = some v ∧ (b ≠ a → t.peek b = s.peek b) := by
  have stored : storable s.cfg.bus a = true := by rw [hbus]; rfl
  refine ⟨_, write8_of_storable stored v, peek_put_same s a v hm stored, fun hb => ?_⟩
  refine peek_put_other s a b v ?_
  rw [hbus]
  exact fun e => hb (BitVec.eq_of_toNat_eq e)

/-- Settles O48: each clause by the region the address lies in. -/
theorem busRegions : Obligations.BusRegions := by
  intro s a b v hm
  refine ⟨fun hbus hl hh => write8_ram hm hbus hl hh b v, fun hbus ha => access_rom hbus ha v,
    fun hbus ha => ?_, fun hbus => write8_flat hm hbus a b v⟩
  have unmapped : region s.cfg.bus a = .unmapped := by rw [hbus]; exact (region_vectrex_eq_unmapped_iff a).mpr ha
  exact read8_of_peek (peek_of_unmapped unmapped)

end Sys2Proof.Machine

/-!
O44, the frame of memory (spec/20_memory.md R72, R74). Two notions carry it. A computation is read-only when it
keeps whatever the register updates, spent cycles and bus reads keep: of memory it can change nothing. A
computation stores within a list of addresses, which may depend on the state it starts in, when every byte outside
their cells reads as before. An instruction's body is read-only parts around one store or one push of known length.
-/
namespace Sys2Proof.Machine

/-! ## Computations that only read -/

/-- The property survives the register updates, spent cycles and bus reads; unlike `Stable`, a bus write may
break it. -/
structure ReadStable (P : State → Prop) : Prop where
  set8 : ∀ s r v, P s → P (s.set8 r v)
  set16 : ∀ s r v, P s → P (s.set16 r v)
  cyc : ∀ s n, P s → P (s.withCyc (s.cyc + n))
  read : ∀ a, Keeps P (read8 a)

theorem ReadStable.cc {P : State → Prop} (h : ReadStable P) (s : State) (v : Byte) (hs : P s) : P (s.withCC v) :=
  h.set8 s .cc v hs

theorem ReadStable.pc {P : State → Prop} (h : ReadStable P) (s : State) (v : Word) (hs : P s) : P (s.withPC v) :=
  h.set16 s .pc v hs

/-- A bus read changes the VIA at most, so a property that survives the other updates and a change of the VIA is
read-stable. -/
theorem readStable_of_updates {P : State → Prop} (h8 : ∀ s r v, P s → P (s.set8 r v))
    (h16 : ∀ s r v, P s → P (s.set16 r v)) (hc : ∀ s n, P s → P (s.withCyc (s.cyc + n)))
    (hv : ∀ s v, P s → P (s.withVia v)) : ReadStable P where
  set8 := h8
  set16 := h16
  cyc := hc
  read a := by
    intro s hs
    cases e : read8 a s with
    | ok v t => obtain ⟨w, rfl⟩ := read8_frame e; exact hv _ _ hs
    | error k t => rw [read8_error e]; exact hs

/-- The computation keeps every property that survives what a computation without bus writes can do. -/
def ReadOnly {α : Type} (m : M α) : Prop := ∀ ⦃P : State → Prop⦄, ReadStable P → Keeps P m

section ReadOnlyOperations

variable {α β : Type}

theorem readOnly_pure (a : α) : ReadOnly (pure a : M α) := fun _ _ => keeps_pure a

theorem readOnly_get : ReadOnly (get : M State) := fun _ _ => keeps_get

theorem readOnly_raise (k : FaultKind) : ReadOnly (raise k : M α) := fun _ _ => keeps_raise k

theorem readOnly_modify {f : State → State} (h : ∀ ⦃P : State → Prop⦄, ReadStable P → ∀ s, P s → P (f s)) :
    ReadOnly (modify f) := fun _ hP => keeps_modify (h hP)

theorem readOnly_bind {m : M α} {f : α → M β} (hm : ReadOnly m) (hf : ∀ a, ReadOnly (f a)) :
    ReadOnly (m >>= f) := fun _ hP => keeps_bind (hm hP) fun a => hf a hP

theorem readOnly_ite {c : Prop} [Decidable c] {m n : M α} (hm : ReadOnly m) (hn : ReadOnly n) :
    ReadOnly (if c then m else n) := fun _ hP => keeps_ite (hm hP) (hn hP)

theorem readOnly_modify_cc (f : State → Byte) : ReadOnly (modify fun s => s.withCC (f s)) :=
  readOnly_modify fun _ hP s hs => hP.cc s _ hs

theorem readOnly_modify_pc (f : State → Word) : ReadOnly (modify fun s => s.withPC (f s)) :=
  readOnly_modify fun _ hP s hs => hP.pc s _ hs

theorem readOnly_set8 (r : Reg8) (f : State → Byte) : ReadOnly (modify fun s => s.set8 r (f s)) :=
  readOnly_modify fun _ hP s hs => hP.set8 s r _ hs

theorem readOnly_set16 (r : Reg16) (f : State → Word) : ReadOnly (modify fun s => s.set16 r (f s)) :=
  readOnly_modify fun _ hP s hs => hP.set16 s r _ hs

theorem readOnly_set8_cc (r : Reg8) (f g : State → Byte) :
    ReadOnly (modify fun s => (s.set8 r (f s)).withCC (g s)) :=
  readOnly_modify fun _ hP s hs => hP.cc _ _ (hP.set8 s r _ hs)

theorem readOnly_set16_cc (r : Reg16) (f : State → Word) (g : State → Byte) :
    ReadOnly (modify fun s => (s.set16 r (f s)).withCC (g s)) :=
  readOnly_modify fun _ hP s hs => hP.cc _ _ (hP.set16 s r _ hs)

theorem readOnly_addCyc (n : Nat) : ReadOnly (addCyc n) := readOnly_modify fun _ hP s hs => hP.cyc s n hs

theorem readOnly_read8 (a : Word) : ReadOnly (read8 a) := fun _ hP => hP.read a

theorem readOnly_read16 (a : Word) : ReadOnly (read16 a) :=
  readOnly_bind (readOnly_read8 a) fun _ => readOnly_bind (readOnly_read8 _) fun _ => readOnly_pure _

/-! ### Addressing and operands -/

theorem readOnly_indexedAt (r : IdxReg) (n : Word) (c : Nat) : ReadOnly (indexedAt r n c) :=
  readOnly_bind readOnly_get fun _ => readOnly_bind (readOnly_addCyc c) fun _ => readOnly_pure _

theorem readOnly_postIncrement (r : IdxReg) (n : Word) (c : Nat) : ReadOnly (postIncrement r n c) :=
  readOnly_bind readOnly_get fun _ => readOnly_bind (readOnly_set16 _ _) fun _ =>
    readOnly_bind (readOnly_addCyc c) fun _ => readOnly_pure _

theorem readOnly_preDecrement (r : IdxReg) (n : Word) (c : Nat) : ReadOnly (preDecrement r n c) :=
  readOnly_bind (readOnly_set16 _ _) fun _ => readOnly_bind (readOnly_addCyc c) fun _ =>
    readOnly_bind readOnly_get fun _ => readOnly_pure _

theorem readOnly_pcRelative (n : Word) (c : Nat) : ReadOnly (pcRelative n c) :=
  readOnly_bind readOnly_get fun _ => readOnly_bind (readOnly_addCyc c) fun _ => readOnly_pure _

theorem readOnly_indirect (ind : Bool) (ea : Word) : ReadOnly (indirect ind ea) :=
  readOnly_ite (readOnly_bind (readOnly_read16 ea) fun _ => readOnly_bind (readOnly_addCyc 3) fun _ =>
    readOnly_pure _) (readOnly_pure _)

theorem readOnly_indexedEa (i : Idx) : ReadOnly (indexedEa i) := by
  cases i with
  | off5 => exact readOnly_indexedAt _ _ _
  | inc1 => exact readOnly_postIncrement _ _ _
  | dec1 => exact readOnly_preDecrement _ _ _
  | inc2 => exact readOnly_bind (readOnly_postIncrement _ _ _) fun _ => readOnly_indirect _ _
  | dec2 => exact readOnly_bind (readOnly_preDecrement _ _ _) fun _ => readOnly_indirect _ _
  | zero | off8 | off16 => exact readOnly_bind (readOnly_indexedAt _ _ _) fun _ => readOnly_indirect _ _
  | accA | accB | accD =>
    exact readOnly_bind readOnly_get fun _ =>
      readOnly_bind (readOnly_indexedAt _ _ _) fun _ => readOnly_indirect _ _
  | pc8 | pc16 => exact readOnly_bind (readOnly_pcRelative _ _) fun _ => readOnly_indirect _ _
  | extInd =>
    exact readOnly_bind (readOnly_read16 _) fun _ => readOnly_bind (readOnly_addCyc 5) fun _ => readOnly_pure _

theorem readOnly_effAddr (e : Ea) : ReadOnly (effAddr e) := by
  cases e with
  | dir => exact readOnly_bind readOnly_get fun _ => readOnly_pure _
  | idx => exact readOnly_indexedEa _
  | ext => exact readOnly_pure _

theorem readOnly_readOperand8 (m : Src8) : ReadOnly (readOperand8 m) := by
  cases m with
  | imm => exact readOnly_pure _
  | mem e => exact readOnly_bind (readOnly_effAddr e) fun _ => readOnly_read8 _

theorem readOnly_readOperand16 (m : Src16) : ReadOnly (readOperand16 m) := by
  cases m with
  | imm => exact readOnly_pure _
  | mem e => exact readOnly_bind (readOnly_effAddr e) fun _ => readOnly_read16 _

/-! ### Pulls -/

theorem readOnly_pull8 (p : Stk) : ReadOnly (pull8 p) :=
  readOnly_bind readOnly_get fun _ => readOnly_bind (readOnly_read8 _) fun _ =>
    readOnly_bind (readOnly_set16 _ _) fun _ => readOnly_pure _

theorem readOnly_pull16 (p : Stk) : ReadOnly (pull16 p) :=
  readOnly_bind (readOnly_pull8 p) fun _ => readOnly_bind (readOnly_pull8 p) fun _ => readOnly_pure _

theorem readOnly_pullIf8 (p : Stk) (sel : Bool) (r : Reg8) : ReadOnly (pullIf8 p sel r) :=
  readOnly_ite (readOnly_bind (readOnly_pull8 p) fun _ => readOnly_set8 r _) (readOnly_pure _)

theorem readOnly_pullIf16 (p : Stk) (sel : Bool) (r : Reg16) : ReadOnly (pullIf16 p sel r) :=
  readOnly_ite (readOnly_bind (readOnly_pull16 p) fun _ => readOnly_set16 r _) (readOnly_pure _)

theorem readOnly_pullList (p : Stk) (m : Byte) : ReadOnly (pullList p m) :=
  readOnly_bind (readOnly_pullIf8 p _ _) fun _ => readOnly_bind (readOnly_pullIf8 p _ _) fun _ =>
  readOnly_bind (readOnly_pullIf8 p _ _) fun _ => readOnly_bind (readOnly_pullIf8 p _ _) fun _ =>
  readOnly_bind (readOnly_pullIf16 p _ _) fun _ => readOnly_bind (readOnly_pullIf16 p _ _) fun _ =>
  readOnly_bind (readOnly_pullIf16 p _ _) fun _ => readOnly_pullIf16 p _ _

theorem readOnly_pullRegs (p : Stk) (m : Byte) : ReadOnly (pullRegs p m) :=
  readOnly_bind (readOnly_pullList p m) fun _ => readOnly_bind readOnly_get fun _ => readOnly_addCyc _

theorem readOnly_returnFromException : ReadOnly returnFromException := by
  refine readOnly_bind (readOnly_pullIf8 _ _ _) fun _ => readOnly_bind readOnly_get fun _ => readOnly_ite ?_ ?_
  · exact
      readOnly_bind (readOnly_pullIf8 _ _ _) fun _ => readOnly_bind (readOnly_pullIf8 _ _ _) fun _ =>
      readOnly_bind (readOnly_pullIf8 _ _ _) fun _ => readOnly_bind (readOnly_pullIf16 _ _ _) fun _ =>
      readOnly_bind (readOnly_pullIf16 _ _ _) fun _ => readOnly_bind (readOnly_pullIf16 _ _ _) fun _ =>
      readOnly_bind (readOnly_addCyc _) fun _ => readOnly_pullIf16 _ _ _
  · exact readOnly_pullIf16 _ _ _

/-! ### Shapes of instructions -/

theorem readOnly_alu8 (r : Reg8) (f : Byte → Byte → Byte → Byte × Byte) (m : Src8) : ReadOnly (alu8 r f m) :=
  readOnly_bind (readOnly_readOperand8 m) fun _ => readOnly_set8_cc r _ _

theorem readOnly_test8 (r : Reg8) (f : Byte → Byte → Byte → Byte × Byte) (m : Src8) : ReadOnly (test8 r f m) :=
  readOnly_bind (readOnly_readOperand8 m) fun _ => readOnly_modify_cc _

theorem readOnly_alu16 (r : Reg16) (f : Word → Word → Byte → Word × Byte) (m : Src16) : ReadOnly (alu16 r f m) :=
  readOnly_bind (readOnly_readOperand16 m) fun _ => readOnly_set16_cc r _ _

theorem readOnly_test16 (r : Reg16) (f : Word → Word → Byte → Word × Byte) (m : Src16) :
    ReadOnly (test16 r f m) :=
  readOnly_bind (readOnly_readOperand16 m) fun _ => readOnly_modify_cc _

theorem readOnly_modifyReg (r : Reg8) (f : Byte → Byte → Byte × Byte) : ReadOnly (modifyReg r f) :=
  readOnly_set8_cc r _ _

theorem readOnly_loadEa (r : Reg16) (setsZ : Bool) (i : Idx) : ReadOnly (loadEa r setsZ i) :=
  readOnly_bind (readOnly_indexedEa i) fun _ => readOnly_set16_cc r _ _

theorem readOnly_branch (p : Cond) (off : Word) : ReadOnly (branch p off) :=
  readOnly_bind readOnly_get fun _ => readOnly_ite
    (readOnly_bind (readOnly_modify_pc _) fun _ => readOnly_addCyc _) (readOnly_pure _)

theorem readOnly_enterHandler (mask : Byte) (vector : Word) : ReadOnly (enterHandler mask vector) :=
  readOnly_bind (readOnly_modify_cc _) fun _ => readOnly_bind (readOnly_read16 vector) fun _ =>
    readOnly_modify_pc _

theorem readOnly_exchange (r1 r2 : XReg) : ReadOnly (transfer r1 r2 exchange8 exchange16) := by
  cases r1 <;> cases r2
  case r8.r8 => exact readOnly_modify fun _ hP s hs => hP.set8 _ _ _ (hP.set8 s _ _ hs)
  case r16.r16 => exact readOnly_modify fun _ hP s hs => hP.set16 _ _ _ (hP.set16 s _ _ hs)
  all_goals exact readOnly_raise _

theorem readOnly_copy (r1 r2 : XReg) : ReadOnly (transfer r1 r2 copy8 copy16) := by
  cases r1 <;> cases r2
  case r8.r8 => exact readOnly_set8 _ _
  case r16.r16 => exact readOnly_set16 _ _
  all_goals exact readOnly_raise _

end ReadOnlyOperations

/-! ## Reading alike outside a list of addresses -/

theorem SameBytesOutside.of_mem_eq {s t : State} (hm : t.mem = s.mem) (hc : t.cfg = s.cfg) (as : List Word) :
    SameBytesOutside as s t := fun b _ => peek_congr hm hc b

theorem SameBytesOutside.trans {as bs : List Word} {s t u : State} (hc : t.cfg = s.cfg)
    (h1 : SameBytesOutside as s t) (h2 : SameBytesOutside bs t u) : SameBytesOutside (as ++ bs) s u := by
  intro b hb
  have hbs : ∀ a ∈ bs, cellKey t.cfg.bus b ≠ cellKey t.cfg.bus a := by
    rw [hc]; exact fun a ha => hb a (List.mem_append_right as ha)
  exact (h2 b hbs).trans (h1 b fun a ha => hb a (List.mem_append_left bs ha))

/-- From each state it answers in, the computation reads alike outside the cells of the addresses that `as` gives
for the state it starts in, and keeps the configuration. -/
def StoresTo {α : Type} (as : State → List Word) (m : M α) : Prop :=
  ∀ ⦃s : State⦄ ⦃a : α⦄ ⦃t : State⦄, m s = .ok a t → t.cfg = s.cfg ∧ SameBytesOutside (as s) s t

/-- A read-only computation leaves memory and the configuration. -/
theorem ReadOnly.mem_cfg {α : Type} {m : M α} (h : ReadOnly m) {s t : State} {a : α} (e : m s = .ok a t) :
    t.mem = s.mem ∧ t.cfg = s.cfg := by
  have kept : ReadStable fun u => u.mem = s.mem ∧ u.cfg = s.cfg :=
    readStable_of_updates (fun u r v hu => by simpa using hu) (fun u r v hu => by simpa using hu)
      (fun _ _ hu => hu) fun _ _ hu => hu
  exact (h kept).ok ⟨rfl, rfl⟩ e

section Storing

variable {α β : Type} {as : State → List Word}

theorem ReadOnly.storesTo {m : M α} (h : ReadOnly m) (as : State → List Word) : StoresTo as m := by
  intro s a t e
  obtain ⟨hm, hc⟩ := h.mem_cfg e
  exact ⟨hc, .of_mem_eq hm hc _⟩

/-- The wait is no register, so a change of it is not `ReadOnly`; memory it leaves alone all the same. -/
theorem storesTo_modify_wait (w : WaitState) (as : State → List Word) :
    StoresTo as (modify fun s => s.withWait w) := by
  intro s _ t e
  cases e
  exact ⟨rfl, .of_mem_eq rfl rfl _⟩

/-- What follows a store may store nothing more. -/
theorem StoresTo.bind {m : M α} {f : α → M β} (hm : StoresTo as m) (hf : ∀ a, StoresTo (fun _ => []) (f a)) :
    StoresTo as (m >>= f) := by
  intro s b u e
  obtain ⟨a, t, e1, e2⟩ := M.bind_eq_ok e
  obtain ⟨hc1, h1⟩ := hm e1
  obtain ⟨hc2, h2⟩ := hf a e2
  refine ⟨hc2.trans hc1, ?_⟩
  rw [← List.append_nil (as s)]
  exact h1.trans hc1 h2

/-- What precedes a store only reads, and the addresses may depend on its answer. -/
theorem ReadOnly.bind_storesTo {m : M α} {f : α → M β} {bs : α → State → List Word} (hm : ReadOnly m)
    (hf : ∀ a, StoresTo (bs a) (f a)) (has : ∀ ⦃s a t⦄, m s = .ok a t → bs a t = as s) :
    StoresTo as (m >>= f) := by
  intro s b u e
  obtain ⟨a, t, e1, e2⟩ := M.bind_eq_ok e
  obtain ⟨hm1, hc1⟩ := hm.mem_cfg e1
  obtain ⟨hc2, h2⟩ := hf a e2
  refine ⟨hc2.trans hc1, ?_⟩
  rw [← has e1]
  exact (SameBytesOutside.of_mem_eq hm1 hc1 []).trans hc1 h2

/-! ### Stores -/

theorem storesTo_write8 (a : Word) (v : Byte) : StoresTo (fun _ => [a]) (write8 a v) := by
  intro s _ t e
  by_cases hr : region s.cfg.bus a = .via
  · have hw : viaWrite a v s = .ok ⟨⟩ t := by
      unfold write8 at e; rw [hr] at e; exact e
    obtain ⟨w, p, e'⟩ | ⟨k, e'⟩ := viaWrite_frame a v s <;> rw [e'] at hw <;> cases hw
    exact ⟨rfl, .of_mem_eq rfl rfl _⟩
  · rw [write8_avoids hr] at e
    cases e
    refine ⟨rfl, fun b hb => ?_⟩
    cases storable s.cfg.bus a with
    | false => rfl
    | true => exact peek_put_other s a b v (hb a (List.mem_singleton_self a))

theorem storesTo_write16 (a v : Word) : StoresTo (fun _ => [a, a + 1]) (write16 a v) := by
  intro s _ u e
  obtain ⟨_, t, e1, e2⟩ := M.bind_eq_ok e
  obtain ⟨hc1, h1⟩ := storesTo_write8 _ _ e1
  obtain ⟨hc2, h2⟩ := storesTo_write8 _ _ e2
  exact ⟨hc2.trans hc1, h1.trans hc1 h2⟩

theorem storeAt1_of_ok {e : Ea} {s t : State} {ea : Word} (h : effAddr e s = .ok ea t) : storeAt1 e s = [ea] := by
  simp only [storeAt1, addressOf, h]

theorem storeAt2_of_ok {e : Ea} {s t : State} {ea : Word} (h : effAddr e s = .ok ea t) :
    storeAt2 e s = [ea, ea + 1] := by
  simp only [storeAt2, addressOf, h]

theorem callAt_of_ok {e : Ea} {s t : State} {ea : Word} (h : effAddr e s = .ok ea t) :
    callAt e s = below t.sp 2 := by
  simp only [callAt, h]

/-- What is done at the address of a memory operand stores to the operand's byte. -/
theorem storesTo_storeAt1 {e : Ea} {f : Word → M Unit} (h : ∀ ea, StoresTo (fun _ => [ea]) (f ea)) :
    StoresTo (storeAt1 e) (effAddr e >>= f) :=
  (readOnly_effAddr e).bind_storesTo h fun _ _ _ e1 => (storeAt1_of_ok e1).symm

theorem storesTo_store8 (r : Reg8) (e : Ea) : StoresTo (storeAt1 e) (store8 r e) :=
  storesTo_storeAt1 fun ea => readOnly_get.bind_storesTo
    (fun _ => (storesTo_write8 ea _).bind fun _ => (readOnly_modify_cc _).storesTo _) fun _ _ _ _ => rfl

theorem storesTo_store16 (r : Reg16) (e : Ea) : StoresTo (storeAt2 e) (store16 r e) :=
  (readOnly_effAddr e).bind_storesTo
    (fun ea => readOnly_get.bind_storesTo
      (fun _ => (storesTo_write16 ea _).bind fun _ => (readOnly_modify_cc _).storesTo _) fun _ _ _ _ => rfl)
    fun _ _ _ e1 => (storeAt2_of_ok e1).symm

theorem storesTo_modifyMem (e : Ea) (f : Byte → Byte → Byte × Byte) : StoresTo (storeAt1 e) (modifyMem e f) :=
  storesTo_storeAt1 fun ea => (readOnly_read8 ea).bind_storesTo
    (fun _ => readOnly_get.bind_storesTo
      (fun _ => (readOnly_modify_cc _).bind_storesTo (fun _ => storesTo_write8 ea _) fun _ _ _ _ => rfl)
      fun _ _ _ _ => rfl)
    fun _ _ _ _ => rfl

theorem storesTo_clr (e : Ea) :
    StoresTo (storeAt1 e) (do
      let ea ← effAddr e
      write8 ea 0
      modify fun t => t.withCC (clrCC t.cc)) :=
  storesTo_storeAt1 fun ea => (storesTo_write8 ea 0).bind fun _ => (readOnly_modify_cc _).storesTo _

end Storing

/-! ### Pushes -/

/-- The `n + k` addresses below a stack pointer are the `n` nearest and the `k` below those. -/
theorem below_add (sp : Word) (n k : Nat) : below sp (n + k) = below sp n ++ below (sp - BitVec.ofNat 16 n) k := by
  induction n generalizing sp with
  | zero => simp [below]
  | succ n ih =>
    have next : sp - 1 - BitVec.ofNat 16 n = sp - BitVec.ofNat 16 (n + 1) := by
      rw [Nat.add_comm, BitVec.ofNat_add, BitVec.sub_sub]; rfl
    rw [Nat.succ_add, below, ih, next]
    rfl

/-- Where it answers, the computation moves the stack pointer `p` down by `n` and stores to the `n` bytes it
passes. -/
def Pushes {α : Type} (p : Stk) (n : Nat) (m : M α) : Prop :=
  StoresTo (fun s => below (s.get16 (stkReg p)) n) m ∧
    ∀ ⦃s : State⦄ ⦃a : α⦄ ⦃t : State⦄, m s = .ok a t →
      t.get16 (stkReg p) = s.get16 (stkReg p) - BitVec.ofNat 16 n

section Pushing

variable {α β : Type} {p : Stk}

theorem Pushes.storesTo {n : Nat} {m : M α} (h : Pushes p n m) :
    StoresTo (fun s => below (s.get16 (stkReg p)) n) m := h.1

theorem Pushes.bind {n k : Nat} {m : M α} {f : α → M β} (hm : Pushes p n m) (hf : ∀ a, Pushes p k (f a)) :
    Pushes p (n + k) (m >>= f) := by
  obtain ⟨hstores, hmoves⟩ := hm
  refine ⟨fun s b u e => ?_, fun s b u e => ?_⟩ <;> obtain ⟨a, t, e1, e2⟩ := M.bind_eq_ok e
  · obtain ⟨hc1, h1⟩ := hstores e1
    obtain ⟨hc2, h2⟩ := (hf a).1 e2
    simp only [hmoves e1] at h2
    refine ⟨hc2.trans hc1, ?_⟩
    simp only [below_add]
    exact h1.trans hc1 h2
  · rw [(hf a).2 e2, hmoves e1, BitVec.sub_sub, BitVec.ofNat_add]

theorem pushes_pure (a : α) : Pushes p 0 (pure a : M α) := by
  refine ⟨(readOnly_pure a).storesTo _, fun s b t e => ?_⟩
  cases e
  simp

theorem Pushes.get_bind {n : Nat} {f : State → M β} (hf : ∀ s, Pushes p n (f s)) : Pushes p n (get >>= f) :=
  ⟨fun s _ _ e => (hf s).1 e, fun s _ _ e => (hf s).2 e⟩

theorem pushes_push8 (v : Byte) : Pushes p 1 (push8 p v) := by
  refine ⟨fun s _ t e => ?_, fun s _ t e => ?_⟩ <;> rw [push8_eq] at e
  · obtain ⟨hc, h⟩ := storesTo_write8 _ _ e
    rw [State.set16_cfg] at hc
    have moved := SameBytesOutside.of_mem_eq (State.set16_mem s (stkReg p) (s.get16 (stkReg p) - 1))
      (State.set16_cfg _ _ _) []
    exact ⟨hc, moved.trans (State.set16_cfg _ _ _) h⟩
  · have write : t.get16 (stkReg p) =
        (s.set16 (stkReg p) (s.get16 (stkReg p) - 1)).get16 (stkReg p) := by
      obtain ⟨m, rfl⟩ | ⟨-, v, q, rfl⟩ := write8_frame e <;> cases p <;> rfl
    rw [write, State.get16_set16]
    rfl

theorem pushes_push16 (v : Word) : Pushes p 2 (push16 p v) :=
  (pushes_push8 (loByte v)).bind fun _ => pushes_push8 (hiByte v)

theorem pushes_pushIf8 (sel : Bool) (r : Reg8) : Pushes p sel.toNat (pushIf8 p sel r) := by
  cases sel with
  | false => exact pushes_pure _
  | true => exact .get_bind fun s => pushes_push8 (s.get8 r)

theorem pushes_pushIf16 (sel : Bool) (r : Reg16) : Pushes p (2 * sel.toNat) (pushIf16 p sel r) := by
  cases sel with
  | false => exact pushes_pure _
  | true => exact .get_bind fun s => pushes_push16 (s.get16 r)

/-- A push of a list stores its bytes: one for each 8-bit register and two for each 16-bit register. -/
theorem pushes_pushList (m : Byte) : Pushes p (listBytes m) (pushList p m) := by
  have bytes : listBytes m = 2 * (m.getLsbD 7).toNat + (2 * (m.getLsbD 6).toNat + (2 * (m.getLsbD 5).toNat +
      (2 * (m.getLsbD 4).toNat + ((m.getLsbD 3).toNat + ((m.getLsbD 2).toNat + ((m.getLsbD 1).toNat +
      (m.getLsbD 0).toNat)))))) := by
    unfold listBytes listCount8 listCount16
    omega
  rw [bytes]
  exact (pushes_pushIf16 (m.getLsbD 7) .pc).bind fun _ =>
    (pushes_pushIf16 (m.getLsbD 6) (otherStk p)).bind fun _ => (pushes_pushIf16 (m.getLsbD 5) .y).bind fun _ =>
    (pushes_pushIf16 (m.getLsbD 4) .x).bind fun _ => (pushes_pushIf8 (m.getLsbD 3) .dp).bind fun _ =>
    (pushes_pushIf8 (m.getLsbD 2) .b).bind fun _ => (pushes_pushIf8 (m.getLsbD 1) .a).bind fun _ =>
    pushes_pushIf8 (m.getLsbD 0) .cc

end Pushing

theorem storesTo_call (target : Word) : StoresTo (fun s => below s.sp 2) (call target) :=
  readOnly_get.bind_storesTo
    (fun s => (pushes_push16 (p := .s) s.pc).storesTo.bind fun _ => (readOnly_modify_pc _).storesTo _)
    fun _ _ _ e => by cases e; rfl

theorem storesTo_jsr (e : Ea) : StoresTo (callAt e) (do let ea ← effAddr e; call ea) :=
  (readOnly_effAddr e).bind_storesTo storesTo_call fun _ _ _ e1 => (callAt_of_ok e1).symm

theorem storesTo_callRelative (f : State → Word) :
    StoresTo (fun s => below s.sp 2) (do let t ← get; call (f t)) :=
  readOnly_get.bind_storesTo (fun _ => storesTo_call _) fun _ _ _ e => by cases e; rfl

theorem storesTo_pushRegs (p : Stk) (m : Byte) :
    StoresTo (fun s => below (s.get16 (stkReg p)) (listBytes m)) (pushRegs p m) :=
  (pushes_pushList m).storesTo.bind fun _ =>
    (readOnly_bind readOnly_get fun _ => readOnly_addCyc _).storesTo _

/-- The whole register set is 12 bytes (spec/46_extension.md R385). -/
theorem storesTo_pushEntire : StoresTo (fun s => below s.sp 12) pushEntire :=
  (readOnly_modify_cc _).bind_storesTo (fun _ => (pushes_pushList (p := .s) 0xFF).storesTo)
    fun _ _ _ e => by cases e; rfl

theorem storesTo_takeException (mask : Byte) (vector : Word) :
    StoresTo (fun s => below s.sp 12) (takeException mask vector) :=
  storesTo_pushEntire.bind fun _ => (readOnly_enterHandler mask vector).storesTo _

theorem storesTo_cwai (m : Byte) :
    StoresTo (fun s => below s.sp 12) (do
      modify fun t => t.withCC (t.cc &&& m)
      pushEntire
      modify fun t => t.withWait .cwai) :=
  (readOnly_modify_cc _).bind_storesTo
    (fun _ => storesTo_pushEntire.bind fun _ => storesTo_modify_wait _ _)
    fun _ _ _ e => by cases e; rfl

/-! ## The frame of memory -/

section Frame

variable {i : Instr} {body : M Unit} {s t : State}

/-- A meaning of the base set stores where its body does. -/
theorem sameBytes_of_perform (h : perform i body s = .next t) (hb : StoresTo (storedTo i) body) :
    SameBytesOutside (storedTo i (start i s)) s t :=
  (hb (finish_eq_next h)).2

/-- A meaning of the extension set stores where its body does: the gate stores nothing. -/
theorem sameBytes_of_performGated {tier : Tier} (h : performGated tier i body s = .next t)
    (hb : StoresTo (storedTo i) body) : SameBytesOutside (storedTo i (start i s)) s t := by
  have answered : gated tier i body (start i s) = .ok ⟨⟩ t := finish_eq_next h
  cases hc : tierAllowed (start i s).cfg tier with
  | true => rw [gated_allowed hc] at answered; exact (hb answered).2
  | false => rw [gated_refused hc] at answered; cases answered

end Frame

/-- Settles O44: each instruction's body is read-only, or stores to the addresses of its shape. -/
theorem frameOfMemory : Obligations.FrameOfMemory := by
  intro i s t h
  unfold exec at h
  cases i with
  | lda | ldb | adda | addb | adca | adcb | suba | subb | ora | orb | anda | andb =>
    exact sameBytes_of_perform h ((readOnly_alu8 _ _ _).storesTo _)
  | eora | eorb | sbca | sbcb => exact sameBytes_of_performGated h ((readOnly_alu8 _ _ _).storesTo _)
  | ldd | ldx | ldy | ldu | lds | addd | subd => exact sameBytes_of_perform h ((readOnly_alu16 _ _ _).storesTo _)
  | cmpa | cmpb | bita | bitb => exact sameBytes_of_perform h ((readOnly_test8 _ _ _).storesTo _)
  | cmpd | cmpx | cmpy | cmpu | cmps => exact sameBytes_of_perform h ((readOnly_test16 _ _ _).storesTo _)
  | sta | stb => exact sameBytes_of_perform h (storesTo_store8 _ _)
  | std | stx | sty | stu | sts => exact sameBytes_of_perform h (storesTo_store16 _ _)
  | leax | leay | leau | leas => exact sameBytes_of_perform h ((readOnly_loadEa _ _ _).storesTo _)
  | neg | inc | dec | asr | lsr | asl | com => exact sameBytes_of_perform h (storesTo_modifyMem _ _)
  | rol | ror => exact sameBytes_of_performGated h (storesTo_modifyMem _ _)
  | nega | negb | inca | incb | deca | decb | asra | asrb | lsra | lsrb | asla | aslb | coma | comb =>
    exact sameBytes_of_perform h ((readOnly_modifyReg _ _).storesTo _)
  | rola | rolb | rora | rorb | daa => exact sameBytes_of_performGated h ((readOnly_modifyReg _ _).storesTo _)
  | clr => exact sameBytes_of_perform h (storesTo_clr _)
  | clra | clrb => exact sameBytes_of_perform h ((readOnly_set8_cc _ _ _).storesTo _)
  | tst e =>
    exact sameBytes_of_perform h
      ((readOnly_bind (readOnly_readOperand8 (.mem e)) fun _ => readOnly_modify_cc _).storesTo _)
  | tsta | tstb | orcc | andcc => exact sameBytes_of_perform h ((readOnly_modify_cc _).storesTo _)
  | mul => exact sameBytes_of_performGated h ((readOnly_set16_cc _ _ _).storesTo _)
  | sex => exact sameBytes_of_performGated h ((readOnly_set8_cc _ _ _).storesTo _)
  | abx => exact sameBytes_of_performGated h ((readOnly_set16 _ _).storesTo _)
  | jmp e =>
    exact sameBytes_of_perform h ((readOnly_bind (readOnly_effAddr e) fun _ => readOnly_modify_pc _).storesTo _)
  | jsr => exact sameBytes_of_perform h (storesTo_jsr _)
  | bsr | lbsr => exact sameBytes_of_perform h (storesTo_callRelative _)
  | rts => exact sameBytes_of_perform h ((readOnly_pullIf16 _ _ _).storesTo _)
  | nop => exact sameBytes_of_perform h ((readOnly_pure _).storesTo _)
  | bra | brn | bhi | bls | bcc | bcs | bne | beq | bvc | bvs | bpl | bmi | bge | blt | bgt | ble
  | lbra | lbrn | lbhi | lbls | lbcc | lbcs | lbne | lbeq | lbvc | lbvs | lbpl | lbmi | lbge | lblt
  | lbgt | lble => exact sameBytes_of_perform h ((readOnly_branch _ _).storesTo _)
  | pshs => exact sameBytes_of_perform h (storesTo_pushRegs .s _)
  | pshu => exact sameBytes_of_perform h (storesTo_pushRegs .u _)
  | puls | pulu => exact sameBytes_of_perform h ((readOnly_pullRegs _ _).storesTo _)
  | exg => exact sameBytes_of_perform h ((readOnly_exchange _ _).storesTo _)
  | tfr => exact sameBytes_of_perform h ((readOnly_copy _ _).storesTo _)
  | swi | swi2 | swi3 => exact sameBytes_of_performGated h (storesTo_takeException _ _)
  | cwai => exact sameBytes_of_performGated h (storesTo_cwai _)
  | sync => exact sameBytes_of_performGated h (storesTo_modify_wait _ _)
  | rti => exact sameBytes_of_performGated h (readOnly_returnFromException.storesTo _)

end Sys2Proof.Machine

/-!
O1 to O3, the decoder and the encoder (spec/30_encoding.md R100 to R119). Each reader of the decoder has a word
relation: which bytes stand for which value. A reader answers exactly where such bytes are in front, and leaves
what follows them; so decoding is known once the words of an instruction are, the ones with ignored post-byte bits
(log 12) among them. The encoder writes one of these words, and all words of an instruction are equally long.
-/
namespace Sys2Proof

open Sys2Proof.Machine

/-! ## Readers and their words -/

section Readers

variable {α β : Type} {read : List Byte → Except DecodeError (α × List Byte)} {word : α → List Byte → Prop}

/-- The reader answers a value exactly where a word of that value is in front, and leaves the bytes after it. -/
def Reads (read : List Byte → Except DecodeError (α × List Byte)) (word : α → List Byte → Prop) : Prop :=
  ∀ bs x rest, read bs = .ok (x, rest) ↔ ∃ used, word x used ∧ bs = used ++ rest

theorem Reads.congr {word' : α → List Byte → Prop} (h : Reads read word)
    (hw : ∀ x used, word x used ↔ word' x used) : Reads read word' := fun bs x rest =>
  (h bs x rest).trans (exists_congr fun used => and_congr_left' (hw x used))

theorem reads_pure (y : α) : Reads (fun bs => pure (y, bs)) fun x used => x = y ∧ used = [] := by
  intro bs x rest
  constructor
  · rintro ⟨⟩
    exact ⟨[], ⟨rfl, rfl⟩, rfl⟩
  · rintro ⟨_, ⟨rfl, rfl⟩, rfl⟩
    rfl

theorem reads_throw (e : DecodeError) :
    Reads (fun _ => (throw e : Except DecodeError (α × List Byte))) fun _ _ => False :=
  fun _ _ _ => ⟨nofun, fun ⟨_, h, _⟩ => h.elim⟩

theorem Reads.bind {k : α × List Byte → Except DecodeError (β × List Byte)} {next : α → β → List Byte → Prop}
    (h : Reads read word) (hk : ∀ x, Reads (fun rest => k (x, rest)) (next x)) :
    Reads (fun bs => read bs >>= k) fun y used => ∃ x u v, word x u ∧ next x y v ∧ used = u ++ v := by
  intro bs y rest
  constructor
  · intro hb
    change read bs >>= k = .ok (y, rest) at hb
    match hr : read bs with
    | .error e => rw [hr] at hb; cases hb
    | .ok (x, mid) =>
      rw [hr] at hb
      obtain ⟨u, hu, rfl⟩ := (h _ _ _).mp hr
      obtain ⟨v, hv, rfl⟩ := (hk x _ _ _).mp hb
      exact ⟨u ++ v, ⟨x, u, v, hu, hv, rfl⟩, (List.append_assoc ..).symm⟩
  · rintro ⟨_, ⟨x, u, v, hu, hv, rfl⟩, rfl⟩
    have first : read (u ++ v ++ rest) = .ok (x, v ++ rest) := (h _ _ _).mpr ⟨u, hu, List.append_assoc ..⟩
    have second : k (x, v ++ rest) = .ok (y, rest) := (hk x _ _ _).mpr ⟨v, hv, rfl⟩
    show read (u ++ v ++ rest) >>= k = _
    rw [first]
    exact second

theorem Reads.map (h : Reads read word) (k : α → β) :
    Reads (fun bs => do let (x, rest) ← read bs; pure (k x, rest)) fun y used => ∃ x, y = k x ∧ word x used :=
  (h.bind fun x => reads_pure (k x)).congr fun y used =>
    ⟨by rintro ⟨x, u, _, hu, ⟨hy, rfl⟩, rfl⟩; exact ⟨x, hy, by rwa [List.append_nil]⟩,
      fun ⟨x, hy, hu⟩ => ⟨x, used, [], hu, ⟨hy, rfl⟩, (List.append_nil used).symm⟩⟩

theorem reads_takeByte : Reads takeByte fun v used => used = [v]
  | [], _, _ => ⟨nofun, by rintro ⟨_, rfl, ⟨⟩⟩⟩
  | _ :: _, _, _ => ⟨by rintro ⟨⟩; exact ⟨_, rfl, rfl⟩, by rintro ⟨_, rfl, ⟨⟩⟩; rfl⟩

theorem wordBytes_joinBytes (h l : Byte) : wordBytes (joinBytes h l) = [h, l] := by
  simp [wordBytes]

theorem reads_takeWord : Reads takeWord fun w used => used = wordBytes w
  | [], _, _ => ⟨nofun, by rintro ⟨_, rfl, ⟨⟩⟩⟩
  | [_], _, _ => ⟨nofun, by rintro ⟨_, rfl, ⟨⟩⟩⟩
  | h :: l :: _, _, _ =>
    ⟨by rintro ⟨⟩; exact ⟨_, rfl, by rw [wordBytes_joinBytes]; rfl⟩,
      by rintro ⟨_, rfl, ⟨⟩⟩; exact congrArg (fun w => Except.ok (w, _)) (joinBytes_hi_lo _)⟩

/-- A reader that looks at one byte and goes on by it. -/
theorem reads_takeByte_bind {k : Byte × List Byte → Except DecodeError (β × List Byte)}
    {next : Byte → β → List Byte → Prop} (hk : ∀ v, Reads (fun rest => k (v, rest)) (next v)) :
    Reads (fun bs => takeByte bs >>= k) fun y used => ∃ v u, next v y u ∧ used = v :: u :=
  (reads_takeByte.bind hk).congr fun _ _ =>
    ⟨by rintro ⟨v, _, u, rfl, hu, rfl⟩; exact ⟨v, u, hu, rfl⟩,
      by rintro ⟨v, u, hu, rfl⟩; exact ⟨v, [v], u, rfl, hu, rfl⟩⟩

end Readers

/-! ## The words of operands -/

/-- The bytes after the post-byte that complete an indexed operand (spec/40_addressing.md R140). -/
def IdxForm.Completes : IdxForm → Idx → List Byte → Prop
  | .none x, y, bs => y = x ∧ bs = []
  | .one k, y, bs => ∃ n, y = k n ∧ bs = [n]
  | .two k, y, bs => ∃ n, y = k n ∧ bs = wordBytes n
  | .illegal, _, _ => False

/-- The bytes stand for the indexed operand: any post-byte of its submode, then the bytes this one asks for. -/
def IdxWord (x : Idx) (bs : List Byte) : Prop := ∃ pp extra, (idxForm pp).Completes x extra ∧ bs = pp :: extra

/-- The bytes stand for the EXG/TFR pair (spec/45_stack_transfer.md R350). -/
def PairWord (p : XReg × XReg) (bs : List Byte) : Prop := ∃ pp, regPair pp = some p ∧ bs = [pp]

/-- The bytes after the opcode that complete a row to an instruction (R103). -/
def OpForm.Completes : OpForm → Instr → List Byte → Prop
  | .inh i, j, bs => j = i ∧ bs = []
  | .imm8 k, j, bs | .dir k, j, bs | .rel8 k, j, bs | .reglist k, j, bs => ∃ v, j = k v ∧ bs = [v]
  | .imm16 k, j, bs | .ext k, j, bs | .rel16 k, j, bs => ∃ w, j = k w ∧ bs = wordBytes w
  | .idx k, j, bs => ∃ x, j = k x ∧ IdxWord x bs
  | .regpair k, j, bs => ∃ p, j = k p.1 p.2 ∧ PairWord p bs

/-- The page byte, where there is one, and the opcode (R101). -/
def OpcodeWord (po : Page × Byte) (bs : List Byte) : Prop :=
  (po.1 = .p0 → pageOf po.2 = none) ∧ bs = po.1.bytes ++ [po.2]

/-- The bytes stand for the instruction: a row of the opcode maps and bytes that complete it (R100 to R103). -/
def InstrWord (i : Instr) (bs : List Byte) : Prop :=
  ∃ p op row operand, lookup p op = some row ∧ row.form.Completes i operand ∧ bs = p.bytes ++ op :: operand

/-! ## What each part of the decoder reads -/

theorem reads_takeIdx : Reads takeIdx IdxWord :=
  reads_takeByte_bind fun pp => by
    dsimp only
    cases idxForm pp with
    | none x => exact reads_pure x
    | one k => exact reads_takeByte.map k
    | two k => exact reads_takeWord.map k
    | illegal => exact reads_throw _

theorem reads_takePair : Reads takePair PairWord :=
  (reads_takeByte_bind (next := fun pp p u => regPair pp = some p ∧ u = []) fun pp => by
    dsimp only
    cases regPair pp with
    | none => exact (reads_throw _).congr (by simp)
    | some p => exact (reads_pure p).congr (by simp [eq_comm])).congr
    fun _ _ => by simp [PairWord]

theorem reads_decodeOperand (f : OpForm) : Reads (decodeOperand f) f.Completes := by
  cases f with
  | inh i => exact reads_pure i
  | imm8 k | dir k | rel8 k | reglist k => exact reads_takeByte.map k
  | imm16 k | ext k | rel16 k => exact reads_takeWord.map k
  | idx k => exact reads_takeIdx.map k
  | regpair k => exact reads_takePair.map fun p => k p.1 p.2

theorem pageOf_eq_some_iff (first : Byte) (p : Page) : pageOf first = some p ↔ p ≠ .p0 ∧ p.bytes = [first] := by
  unfold pageOf
  split_ifs <;> cases p <;> simp_all [Page.bytes, eq_comm]

/-- What a first byte makes of the bytes after it: itself the opcode, or a page and one opcode byte (R101). -/
def OpcodeAfter (first : Byte) (po : Page × Byte) (bs : List Byte) : Prop :=
  match pageOf first with
  | none => po = (.p0, first) ∧ bs = []
  | some p => ∃ op, po = (p, op) ∧ bs = [op]

theorem reads_takeOpcode : Reads takeOpcode OpcodeWord :=
  (reads_takeByte_bind (next := OpcodeAfter) fun first => by
    unfold OpcodeAfter
    dsimp only
    cases pageOf first with
    | none => exact reads_pure _
    | some p => exact reads_takeByte.map fun op => (p, op)).congr fun ⟨p, op⟩ used => by
      constructor
      · rintro ⟨first, u, h, rfl⟩
        unfold OpcodeAfter at h
        cases hp : pageOf first with
        | none =>
          rw [hp] at h
          obtain ⟨⟨⟩, rfl⟩ := h
          exact ⟨fun _ => hp, rfl⟩
        | some q =>
          rw [hp] at h
          obtain ⟨_, ⟨⟩, rfl⟩ := h
          obtain ⟨paged, hb⟩ := (pageOf_eq_some_iff _ _).mp hp
          exact ⟨fun h0 => absurd h0 paged, by rw [hb]; rfl⟩
      · rintro ⟨h, rfl⟩
        cases p with
        | p0 => exact ⟨op, [], by simp [OpcodeAfter, h rfl], rfl⟩
        | p1 => exact ⟨0x10, [op], ⟨op, rfl, rfl⟩, rfl⟩
        | p2 => exact ⟨0x11, [op], ⟨op, rfl, rfl⟩, rfl⟩

/-- A page byte is no opcode (R101). -/
theorem pageOf_eq_none_of_lookup {op : Byte} {row : Row} (h : lookup .p0 op = some row) : pageOf op = none := by
  unfold pageOf
  split_ifs with h1 h2
  · subst h1; cases h
  · subst h2; cases h
  · rfl

theorem reads_decode : Reads decode InstrWord :=
  (reads_takeOpcode.bind (next := fun po i u => ∃ row, lookup po.1 po.2 = some row ∧ row.form.Completes i u)
    fun po => by
      dsimp only
      cases lookup po.1 po.2 with
      | none => exact (reads_throw _).congr (by simp)
      | some row => exact (reads_decodeOperand row.form).congr (by simp)).congr
    fun i used => by
      constructor
      · rintro ⟨⟨p, op⟩, _, v, ⟨_, rfl⟩, ⟨row, hl, hc⟩, rfl⟩
        exact ⟨p, op, row, v, hl, hc, by simp⟩
      · rintro ⟨p, op, row, v, hl, hc, rfl⟩
        refine ⟨(p, op), _, v, ⟨?_, rfl⟩, ⟨row, hl, hc⟩, by simp⟩
        rintro rfl
        exact pageOf_eq_none_of_lookup hl

/-! ## The encoder writes words -/

/-- Each field of a post-byte reads back (R108). -/
@[simp] theorem postByte_fields (r : IdxReg) (ind : Bool) (mode : BitVec 4) :
    (postByte r ind mode)[7] = true ∧ idxReg (postByte r ind mode) = r ∧ (postByte r ind mode)[4] = ind ∧
      lowNibble (postByte r ind mode) = mode := by
  cases r <;> cases ind <;> revert mode <;> decide

/-- Each field of the post-byte of a 5-bit offset reads back (R108). -/
theorem off5_fields (r : IdxReg) (n : BitVec 5) :
    ((0#1 ++ r.bits) ++ n).getLsbD 7 = false ∧ idxReg ((0#1 ++ r.bits) ++ n) = r ∧
      ((0#1 ++ r.bits) ++ n).extractLsb' 0 5 = n := by
  cases r <;> revert n <;> decide

theorem idxForm_off5 (r : IdxReg) (n : BitVec 5) : idxForm ((0#1 ++ r.bits) ++ n) = .none (.off5 r n) := by
  obtain ⟨clear, reg, offset⟩ := off5_fields r n
  rw [idxForm, clear, reg, offset]
  rfl

theorem idxWord_bytes (x : Idx) : IdxWord x x.bytes := by
  cases x with
  | off5 r n => exact ⟨_, [], by rw [idxForm_off5]; exact ⟨rfl, rfl⟩, rfl⟩
  | inc1 | inc2 | dec1 | dec2 | zero | accB | accA | accD =>
    exact ⟨_, [], by simp [idxForm, IdxForm.Completes], rfl⟩
  | off8 _ n | pc8 n => exact ⟨_, [n], by simp [idxForm, IdxForm.Completes], rfl⟩
  | off16 _ n | pc16 n => exact ⟨_, wordBytes n, by simp [idxForm, IdxForm.Completes], rfl⟩
  | extInd n => exact ⟨0x9F, wordBytes n, ⟨n, rfl, rfl⟩, rfl⟩

theorem xregOf_nibble (r : XReg) : xregOf r.nibble = some r := by
  rcases r with r | r <;> cases r <;> rfl

theorem highNibble_pairByte (r1 r2 : XReg) : highNibble (pairByte r1 r2) = r1.nibble :=
  BitVec.extractLsb'_append_eq_left

theorem lowNibble_pairByte (r1 r2 : XReg) : lowNibble (pairByte r1 r2) = r2.nibble :=
  BitVec.extractLsb'_append_eq_right

theorem regPair_pairByte {r1 r2 : XReg} (h : r1.sameWidth r2 = true) : regPair (pairByte r1 r2) = some (r1, r2) := by
  simp [regPair, highNibble_pairByte, lowNibble_pairByte, xregOf_nibble, h]

theorem pairWord_pairByte {r1 r2 : XReg} (h : r1.sameWidth r2 = true) : PairWord (r1, r2) [pairByte r1 r2] :=
  ⟨_, regPair_pairByte h, rfl⟩

/-- The bytes of an instruction complete the row of its opcode. -/
theorem instrWord_encode_of_row {i : Instr} {p : Page} {op : Byte} {row : Row} (ho : opcodeOf i = (p, op))
    (hl : lookup p op = some row) (hc : row.form.Completes i (operandBytes i)) : InstrWord i (encode i) :=
  ⟨p, op, row, operandBytes i, hl, hc, by rw [encode, ho]⟩

/-- A memory operand has a direct, an indexed and an extended row. -/
theorem instrWord_encode_ea {k : Ea → Instr} {p : Page} {dir idx ext : Byte} {t : Tier}
    (ho : ∀ e, opcodeOf (k e) = (p, e.pick dir idx ext)) (hb : ∀ e, operandBytes (k e) = e.bytes)
    (hd : lookup p dir = some ⟨t, dirE k⟩) (hi : lookup p idx = some ⟨t, idxE k⟩)
    (he : lookup p ext = some ⟨t, extE k⟩) (e : Ea) : InstrWord (k e) (encode (k e)) := by
  cases e with
  | dir d => exact instrWord_encode_of_row (ho _) hd ⟨d, rfl, hb _⟩
  | idx x => exact instrWord_encode_of_row (ho _) hi ⟨x, rfl, hb (.idx x) ▸ idxWord_bytes x⟩
  | ext a => exact instrWord_encode_of_row (ho _) he ⟨a, rfl, hb _⟩

/-- An 8-bit source has an immediate row beside those of a memory operand. -/
theorem instrWord_encode_src8 {k : Src8 → Instr} {p : Page} {imm dir idx ext : Byte} {t : Tier}
    (ho : ∀ m, opcodeOf (k m) = (p, m.pick imm dir idx ext)) (hb : ∀ m, operandBytes (k m) = m.bytes)
    (hv : lookup p imm = some ⟨t, imm8S k⟩) (hd : lookup p dir = some ⟨t, dirS k⟩)
    (hi : lookup p idx = some ⟨t, idxS k⟩) (he : lookup p ext = some ⟨t, extS k⟩) (m : Src8) :
    InstrWord (k m) (encode (k m)) := by
  cases m with
  | imm v => exact instrWord_encode_of_row (ho _) hv ⟨v, rfl, hb _⟩
  | mem e => exact instrWord_encode_ea (k := fun e => k (.mem e)) (fun e => ho _) (fun e => hb _) hd hi he e

/-- A 16-bit source has an immediate row beside those of a memory operand. -/
theorem instrWord_encode_src16 {k : Src16 → Instr} {p : Page} {imm dir idx ext : Byte} {t : Tier}
    (ho : ∀ m, opcodeOf (k m) = (p, m.pick imm dir idx ext)) (hb : ∀ m, operandBytes (k m) = m.bytes)
    (hv : lookup p imm = some ⟨t, imm16S k⟩) (hd : lookup p dir = some ⟨t, dirW k⟩)
    (hi : lookup p idx = some ⟨t, idxW k⟩) (he : lookup p ext = some ⟨t, extW k⟩) (m : Src16) :
    InstrWord (k m) (encode (k m)) := by
  cases m with
  | imm v => exact instrWord_encode_of_row (ho _) hv ⟨v, rfl, hb _⟩
  | mem e => exact instrWord_encode_ea (k := fun e => k (.mem e)) (fun e => ho _) (fun e => hb _) hd hi he e

/-- Each instruction's opcode has its own row in the maps of R110 to R112, in each form of its operand. -/
theorem instrWord_encode {i : Instr} (h : i.wellFormed = true) : InstrWord i (encode i) := by
  cases i with
  | exg r1 r2 | tfr r1 r2 => exact instrWord_encode_of_row rfl rfl ⟨(r1, r2), rfl, pairWord_pairByte h⟩
  | lda m | ldb m | adda m | addb m | adca m | adcb m | suba m | subb m | cmpa m | cmpb m | ora m | orb m
  | anda m | andb m | bita m | bitb m | eora m | eorb m | sbca m | sbcb m =>
    exact instrWord_encode_src8 (fun _ => rfl) (fun _ => rfl) rfl rfl rfl rfl m
  | ldd m | ldx m | ldy m | ldu m | lds m | addd m | subd m | cmpd m | cmpx m | cmpy m | cmpu m | cmps m =>
    exact instrWord_encode_src16 (fun _ => rfl) (fun _ => rfl) rfl rfl rfl rfl m
  | sta e | stb e | std e | stx e | sty e | stu e | sts e | clr e | neg e | inc e | dec e | asr e | lsr e | asl e
  | com e | tst e | jmp e | jsr e | rol e | ror e =>
    exact instrWord_encode_ea (fun _ => rfl) (fun _ => rfl) rfl rfl rfl e
  | leax x | leay x | leau x | leas x => exact instrWord_encode_of_row rfl rfl ⟨x, rfl, idxWord_bytes x⟩
  | clra | clrb | nega | negb | inca | incb | deca | decb | asra | asrb | lsra | lsrb | asla | aslb | coma | comb
  | tsta | tstb | rts | nop | rola | rolb | rora | rorb | mul | sex | abx | daa | swi | swi2 | swi3 | rti | sync =>
    exact instrWord_encode_of_row rfl rfl ⟨rfl, rfl⟩
  | orcc v | andcc v | cwai v | pshs v | puls v | pshu v | pulu v
  | bsr v | bra v | brn v | bhi v | bls v | bcc v | bcs v | bne v | beq v | bvc v | bvs v | bpl v | bmi v | bge v
  | blt v | bgt v | ble v
  | lbsr v | lbra v | lbrn v | lbhi v | lbls v | lbcc v | lbcs v | lbne v | lbeq v | lbvc v | lbvs v | lbpl v
  | lbmi v | lbge v | lblt v | lbgt v | lble v => exact instrWord_encode_of_row rfl rfl ⟨v, rfl, rfl⟩

/-- Settles O1: the encoding of a well-formed instruction is one of its words. -/
theorem decodeEncodeRoundTrip : Obligations.DecodeEncodeRoundTrip := fun i rest h =>
  (reads_decode _ i rest).mpr ⟨encode i, instrWord_encode h, rfl⟩

/-! ## The words of one instruction -/

/-- Every operand of a submode is as long as the submode says. -/
def IdxForm.LengthsMatch : IdxForm → Prop
  | .none x => x.bytes.length = 1
  | .one k => ∀ n, (k n).bytes.length = 2
  | .two k => ∀ n, (k n).bytes.length = 3
  | .illegal => True

theorem idxForm_lengthsMatch (pp : Byte) : (idxForm pp).LengthsMatch := by
  unfold idxForm
  split
  · split <;> simp [IdxForm.LengthsMatch, Idx.bytes, wordBytes]
  · exact rfl

theorem IdxWord.length_eq {x : Idx} {bs : List Byte} (h : IdxWord x bs) : bs.length = x.bytes.length := by
  obtain ⟨pp, extra, hc, rfl⟩ := h
  have lengths := idxForm_lengthsMatch pp
  cases hf : idxForm pp <;> rw [hf] at hc lengths
  case none =>
    obtain ⟨rfl, rfl⟩ := hc
    exact lengths.symm
  case one =>
    obtain ⟨n, rfl, rfl⟩ := hc
    exact (lengths n).symm
  case two =>
    obtain ⟨n, rfl, rfl⟩ := hc
    exact (lengths n).symm
  case illegal => exact hc.elim

theorem regPair_sameWidth {pp : Byte} {p : XReg × XReg} (h : regPair pp = some p) : p.1.sameWidth p.2 = true := by
  unfold regPair at h
  split at h
  · obtain ⟨same, ⟨⟩⟩ := Option.ite_none_right_eq_some.mp h
    exact same
  · cases h

/-! ### The opcode maps, cell by cell -/

/-- How the encoder writes an instruction, and whether it is well formed. -/
structure EncodedAs (i : Instr) (p : Page) (op : Byte) (operand : List Byte) (wf : Bool) : Prop where
  opcode : opcodeOf i = (p, op)
  operand : operandBytes i = operand
  wellFormed : i.wellFormed = wf

/-- Every instruction of the row is encoded with the row's opcode and in the row's format. -/
def OpForm.Encodes (p : Page) (op : Byte) : OpForm → Prop
  | .inh i => EncodedAs i p op [] true
  | .imm8 k | .dir k | .rel8 k | .reglist k => ∀ v, EncodedAs (k v) p op [v] true
  | .imm16 k | .ext k | .rel16 k => ∀ w, EncodedAs (k w) p op (wordBytes w) true
  | .idx k => ∀ x, EncodedAs (k x) p op x.bytes true
  | .regpair k => ∀ r1 r2, EncodedAs (k r1 r2) p op [pairByte r1 r2] (r1.sameWidth r2)

/-- The cells of a map from opcode `n` on: the row in each is encoded with the opcode of its place. -/
def CellsEncode (p : Page) : Nat → List (Option Row) → Prop
  | _, [] => True
  | n, none :: cells => CellsEncode p (n + 1) cells
  | n, some row :: cells => row.form.Encodes p (BitVec.ofNat 8 n) ∧ CellsEncode p (n + 1) cells

/-- The rows of a map from opcode `n` on, sixteen opcodes to a row. -/
def RowsEncode (p : Page) : Nat → List (List (Option Row)) → Prop
  | _, [] => True
  | n, cells :: rows => CellsEncode p n cells ∧ RowsEncode p (n + 16) rows

theorem CellsEncode.getD {p : Page} {row : Row} {cells : List (Option Row)} {n : Nat} (h : CellsEncode p n cells)
    (k : Nat) (hk : cells.getD k none = some row) : row.form.Encodes p (BitVec.ofNat 8 (n + k)) := by
  induction cells generalizing n k with
  | nil => cases hk
  | cons cell cells ih =>
    cases k with
    | zero =>
      obtain rfl : cell = some row := hk
      exact h.1
    | succ k =>
      have tail : CellsEncode p (n + 1) cells := by
        cases cell with
        | none => exact h
        | some _ => exact h.2
      rw [← Nat.add_assoc, Nat.add_right_comm]
      exact ih tail k hk

theorem RowsEncode.getD {p : Page} {rows : List (List (Option Row))} {n : Nat} (h : RowsEncode p n rows) (k : Nat) :
    CellsEncode p (n + 16 * k) (rows.getD k []) := by
  induction rows generalizing n k with
  | nil => exact trivial
  | cons cells rows ih =>
    cases k with
    | zero => exact h.1
    | succ k =>
      have := ih h.2 k
      rwa [show n + 16 + 16 * k = n + 16 * (k + 1) by omega] at this

theorem map_encodes (p : Page) : RowsEncode p 0 p.map := by
  cases p
  all_goals
    simp only [Page.map, RowsEncode, CellsEncode, OpForm.Encodes, base, extn, waitn, imm8S, imm16S, dirE, dirS, dirW,
      idxE, idxS, idxW, extE, extS, extW, and_true, true_and,
      page0, page0Row0, page0Row1, page0Row2, page0Row3, page0Row4, page0Row5, page0Row6, page0Row7,
      page0Row8, page0Row9, page0RowA, page0RowB, page0RowC, page0RowD, page0RowE, page0RowF,
      page1, page1Row2, page1Row3, page1Row8, page1Row9, page1RowA, page1RowB, page1RowC, page1RowD, page1RowE,
      page1RowF, page2, page2Row3, page2Row8, page2Row9, page2RowA, page2RowB]
    and_intros <;> intros <;> exact ⟨rfl, rfl, rfl⟩

/-- The row of an opcode encodes with that opcode, on every page. -/
theorem encodes_of_lookup {p : Page} {op : Byte} {row : Row} (h : lookup p op = some row) : row.form.Encodes p op := by
  have cell := ((map_encodes p).getD (op.toNat / 16)).getD (op.toNat % 16) h
  rwa [Nat.zero_add, Nat.div_add_mod, BitVec.ofNat_toNat, BitVec.setWidth_eq] at cell

/-- Bytes that complete a row make a well-formed instruction of the row's opcode, and are as many as the encoder
writes after it; only post-byte bits that R140 to R145 ignore can differ. -/
theorem OpForm.Encodes.of_completes {p : Page} {op : Byte} {f : OpForm} {i : Instr} {bs : List Byte}
    (h : f.Encodes p op) (hc : f.Completes i bs) :
    opcodeOf i = (p, op) ∧ bs.length = (operandBytes i).length ∧ i.wellFormed = true := by
  cases f with
  | inh i =>
    obtain ⟨rfl, rfl⟩ := hc
    exact ⟨h.opcode, by rw [h.operand], h.wellFormed⟩
  | imm8 k | dir k | rel8 k | reglist k | imm16 k | ext k | rel16 k =>
    obtain ⟨v, rfl, rfl⟩ := hc
    exact ⟨(h v).opcode, by rw [(h v).operand], (h v).wellFormed⟩
  | idx k =>
    obtain ⟨x, rfl, hx⟩ := hc
    exact ⟨(h x).opcode, by rw [(h x).operand, hx.length_eq], (h x).wellFormed⟩
  | regpair k =>
    obtain ⟨⟨r1, r2⟩, rfl, pp, hp, rfl⟩ := hc
    exact ⟨(h r1 r2).opcode, by rw [(h r1 r2).operand]; rfl, (h r1 r2).wellFormed.trans (regPair_sameWidth hp)⟩

theorem InstrWord.wellFormed {i : Instr} {bs : List Byte} (h : InstrWord i bs) : i.wellFormed = true := by
  obtain ⟨p, op, row, operand, hl, hc, -⟩ := h
  obtain ⟨-, -, wf⟩ := (encodes_of_lookup hl).of_completes hc
  exact wf

theorem InstrWord.length_eq {i : Instr} {bs : List Byte} (h : InstrWord i bs) : bs.length = (encode i).length := by
  obtain ⟨p, op, row, operand, hl, hc, rfl⟩ := h
  obtain ⟨opcode, len, -⟩ := (encodes_of_lookup hl).of_completes hc
  simp [encode, opcode, len]

theorem OpForm.Completes.length_le {f : OpForm} {i : Instr} {bs : List Byte} (h : f.Completes i bs) :
    bs.length ≤ 3 := by
  cases f with
  | inh =>
    obtain ⟨-, rfl⟩ := h
    exact Nat.zero_le 3
  | imm8 | dir | rel8 | reglist | imm16 | ext | rel16 =>
    obtain ⟨v, -, rfl⟩ := h
    exact Nat.le_of_ble_eq_true rfl
  | idx =>
    obtain ⟨x, -, hx⟩ := h
    rw [hx.length_eq]
    exact Laws.HasRow.idx_length x
  | regpair =>
    obtain ⟨-, -, pp, -, rfl⟩ := h
    exact Nat.le_of_ble_eq_true rfl

theorem Page.length_bytes_le (p : Page) : p.bytes.length ≤ 1 := by
  cases p <;> decide

/-- A page byte at most, an opcode and three operand bytes at most (R100). -/
theorem InstrWord.length_bounds {i : Instr} {bs : List Byte} (h : InstrWord i bs) :
    1 ≤ bs.length ∧ bs.length ≤ 5 := by
  obtain ⟨p, op, row, operand, -, hc, rfl⟩ := h
  have := hc.length_le
  have := p.length_bytes_le
  simp only [List.length_append, List.length_cons]
  omega

/-- Settles O2: the bytes the decoder took are a word of the instruction, and a word decodes before any others. -/
theorem decodeConsumesItsBytes : Obligations.DecodeConsumesItsBytes := by
  intro bs rest i h
  obtain ⟨used, word, rfl⟩ := (reads_decode bs i rest).mp h
  obtain ⟨lower, upper⟩ := word.length_bounds
  exact ⟨word.wellFormed, used, rfl, word.length_eq, lower, upper, fun rest' =>
    (reads_decode _ i rest').mpr ⟨used, word, rfl⟩⟩

/-- Settles O3: closed words, each evaluated by the decoder. -/
theorem decodeSampleWords : Obligations.DecodeSampleWords := by
  unfold Obligations.DecodeSampleWords
  and_intros <;> rfl

end Sys2Proof

/-!
O46 and O47, addresses and operands (spec/40_addressing.md R140 to R147). An addressing part of an instruction
answers in every state; only the indirection and the operand access go through the bus, and they need the bytes
they read to be memory. So each indexed submode is its answer, then `indirect` at that answer.
-/
namespace Sys2Proof.Machine

/-! ## Reads of bytes of memory -/

theorem read8_of_isSome {s : State} {a : Word} (h : (s.peek a).isSome) : read8 a s = .ok (s.byteAt a) s := by
  obtain ⟨v, hv⟩ := Option.isSome_iff_exists.mp h
  rw [read8_of_peek hv, State.byteAt, hv, Option.getD_some]

theorem read16_of_isSome {s : State} {a : Word} (hh : (s.peek a).isSome) (hl : (s.peek (a + 1)).isSome) :
    read16 a s = .ok (s.wordAt a) s := by
  unfold read16
  rw [M.bind_ok (read8_of_isSome hh), M.bind_ok (read8_of_isSome hl)]
  rfl

theorem get16_withCyc (s : State) (n : Nat) (r : Reg16) : (s.withCyc n).get16 r = s.get16 r := by
  cases r <;> rfl

theorem peek_withCyc (s : State) (n : Nat) (a : Word) : (s.withCyc n).peek a = s.peek a :=
  peek_congr rfl rfl a

theorem peek_set16 (s : State) (r : Reg16) (v a : Word) : (s.set16 r v).peek a = s.peek a :=
  peek_congr (s.set16_mem r v) (s.set16_cfg r v) a

/-- Only memory and the configuration decide what a word of memory reads as. -/
theorem wordAt_congr {s t : State} (h : ∀ a, t.peek a = s.peek a) (a : Word) : t.wordAt a = s.wordAt a := by
  simp only [State.wordAt, State.byteAt, h]

/-! ## The answer of each addressing part (R145) -/

section AddressingParts

variable (r : IdxReg) (n : Word) (c : Nat) (s : State)

theorem indexedAt_apply : indexedAt r n c s = .ok (s.get16 (idxReg16 r) + n) (s.withCyc (s.cyc + c)) := rfl

theorem pcRelative_apply : pcRelative n c s = .ok (s.pc + n) (s.withCyc (s.cyc + c)) := rfl

theorem postIncrement_apply : postIncrement r n c s = .ok (s.get16 (idxReg16 r))
    ((s.set16 (idxReg16 r) (s.get16 (idxReg16 r) + n)).withCyc (s.cyc + c)) := by
  unfold postIncrement
  rw [M.bind_ok (M.get_apply s), M.bind_ok (M.modify_apply _ s), M.bind_ok (addCyc_apply c _), State.set16_cyc]
  rfl

theorem preDecrement_apply : preDecrement r n c s = .ok (s.get16 (idxReg16 r) - n)
    ((s.set16 (idxReg16 r) (s.get16 (idxReg16 r) - n)).withCyc (s.cyc + c)) := by
  unfold preDecrement
  rw [M.bind_ok (M.modify_apply _ s), M.bind_ok (addCyc_apply c _), M.bind_ok (M.get_apply _), State.set16_cyc,
    get16_withCyc, State.get16_set16]
  rfl

end AddressingParts

/-- The indirection answers the big-endian word at the address, for 3 more cycles (R142). -/
theorem indirect_true_apply {s : State} {ea : Word} (hh : (s.peek ea).isSome) (hl : (s.peek (ea + 1)).isSome) :
    indirect true ea s = .ok (s.wordAt ea) (s.withCyc (s.cyc + 3)) := by
  simp only [indirect, if_true]
  rw [M.bind_ok (read16_of_isSome hh hl)]
  rfl

/-! ## Submodes with and without indirection -/

/-- A submode that ends in `indirect` at the address `ea`, after a register update that leaves memory alone. -/
theorem indexedIs_of_indirect {x : Bool → Idx} {ea : State → Word} {upd : State → State} {c : Nat}
    (hx : ∀ ind s, indexedEa (x ind) s = indirect ind (ea s) ((upd s).withCyc (s.cyc + c)))
    (hpeek : ∀ s a, (upd s).peek a = s.peek a) : IndexedIs x ea upd c := by
  intro s
  have same : ∀ a, ((upd s).withCyc (s.cyc + c)).peek a = s.peek a := fun a =>
    (peek_withCyc _ _ a).trans (hpeek s a)
  refine ⟨hx false s, fun hh hl => ?_⟩
  rw [hx, indirect_true_apply (by rwa [same]) (by rwa [same]), wordAt_congr same]
  rfl

/-- A post-increment or pre-decrement by two. -/
theorem indexedIs_of_moving {x : Bool → Idx} {part : M Word} {ea : State → Word} {r : Reg16} {v : State → Word}
    {c : Nat} (hx : ∀ ind, indexedEa (x ind) = part >>= indirect ind)
    (hpart : ∀ s, part s = .ok (ea s) ((s.set16 r (v s)).withCyc (s.cyc + c))) :
    IndexedIs x ea (fun s => s.set16 r (v s)) c :=
  indexedIs_of_indirect (fun ind s => by rw [hx, M.bind_ok (hpart s)]) fun s => peek_set16 s r (v s)

/-- A submode that moves no register. -/
theorem indexedIs_of_still {x : Bool → Idx} {ea : State → Word} {c : Nat}
    (hx : ∀ ind s, indexedEa (x ind) s = indirect ind (ea s) (s.withCyc (s.cyc + c))) :
    IndexedIs x ea (fun s => s) c :=
  indexedIs_of_indirect hx fun _ _ => rfl

/-- Register indirect with no offset is the offset 0. -/
theorem indexedIs_zero (r : IdxReg) : IndexedIs (.zero r) (fun s => s.get16 (idxReg16 r)) (fun s => s) 0 :=
  indexedIs_of_still fun ind s => by
    change (indexedAt r 0 0 >>= indirect ind) s = _
    rw [M.bind_ok (indexedAt_apply r 0 0 s), add_zero]

/-- The extended indirect mode reads its word with no offset and costs 5 cycles. -/
theorem indexedEa_extInd {s : State} {n : Word} (hh : (s.peek n).isSome) (hl : (s.peek (n + 1)).isSome) :
    indexedEa (.extInd n) s = .ok (s.wordAt n) (s.withCyc (s.cyc + 5)) := by
  change (read16 n >>= fun ea => addCyc 5 >>= fun _ => pure ea) s = _
  rw [M.bind_ok (read16_of_isSome hh hl)]
  rfl

/-- Settles O46: each submode is the answer of its addressing part, then `indirect`. A sign-extended offset is
the word of its signed value by definition, so the submodes that move no register answer what the row says. -/
theorem indexedAddresses : Obligations.IndexedAddresses := by
  intro r n5 n8 n16
  refine ⟨indexedAt_apply r _ 1, postIncrement_apply r 1 2, preDecrement_apply r 1 2,
    indexedIs_of_moving (fun _ => rfl) (postIncrement_apply r 2 3),
    indexedIs_of_moving (fun _ => rfl) (preDecrement_apply r 2 3), indexedIs_zero r,
    ?accB, ?accA, ?off8, ?off16, ?accD, ?pc8, ?pc16, fun _ => indexedEa_extInd⟩
  all_goals exact indexedIs_of_still fun _ _ => rfl

/-! ## Operands -/

/-- Two bytes side by side are their value to the base 256. -/
theorem joinBytes_eq_ofNat (h l : Byte) : joinBytes h l = BitVec.ofNat 16 (256 * h.toNat + l.toNat) := by
  apply BitVec.eq_of_toNat_eq
  rw [joinBytes, BitVec.toNat_append, BitVec.toNat_ofNat, ← Nat.shiftLeft_add_eq_or_of_lt l.isLt]
  omega

theorem effAddr_dir (d : Byte) (s : State) :
    effAddr (.dir d) s = .ok (BitVec.ofNat 16 (256 * s.dp.toNat + d.toNat)) s := by
  rw [← joinBytes_eq_ofNat]
  rfl

/-- An operand in memory is the read at its address, in the state that computing the address left (R147). -/
theorem readOperand8_mem {e : Ea} {s t : State} {ea : Word} (h : effAddr e s = .ok ea t) :
    readOperand8 (.mem e) s = read8 ea t :=
  M.bind_ok h

theorem readOperand16_mem {e : Ea} {s t : State} {ea : Word} (h : effAddr e s = .ok ea t) :
    readOperand16 (.mem e) s = read16 ea t :=
  M.bind_ok h

/-- Settles O47: an operand in memory is the bus read at its address. -/
theorem operandsReadable : Obligations.OperandsReadable := by
  intro s t v w e ea
  refine ⟨rfl, rfl, effAddr_dir v s, rfl, fun hea h => ?_, fun hea hh hl => ?_⟩
  · rw [readOperand8_mem hea, read8_of_isSome h]
  · rw [readOperand16_mem hea, read16_of_isSome hh hl]

end Sys2Proof.Machine

/-!
O23 and O24, read-modify-write of a memory byte (spec/40_addressing.md R149). The result and the flags come from an
operation on the byte and CC, the same one the accumulator form uses, and stand here in exact arithmetic. The
rest is one argument for every such instruction: CC is written before the byte, and a bus write does not see CC.
-/
namespace Sys2Proof.Machine

/-! ## Bits and halves of a byte -/

theorem getLsbD_eq_decide {w : Nat} (v : BitVec w) (i : Nat) :
    v.getLsbD i = decide (v.toNat / 2 ^ i % 2 = 1) := by
  rw [BitVec.getLsbD, Nat.testBit_eq_decide_div_mod_eq]

/-- The bit shifted out to the right says whether the byte is odd. -/
theorem bit0_eq_odd (v : Byte) : v.getLsbD 0 = decide (v.toNat % 2 = 1) := by
  rw [getLsbD_eq_decide, pow_zero, Nat.div_one]

/-- The bit shifted out to the left is the sign. -/
theorem bit7_eq_neg8 (v : Byte) : v.getLsbD 7 = neg8 v := by
  have := v.isLt
  rw [getLsbD_eq_decide, neg8, decide_eq_decide]
  omega

/-- Bits 7 and 6 differ exactly where the doubled signed value does not fit. -/
theorem bit7_xor_bit6 (v : Byte) : (v.getLsbD 7 ^^ v.getLsbD 6) = outside8 (2 * v.toInt) := by
  have := v.isLt
  rw [getLsbD_eq_decide, getLsbD_eq_decide, outside8, BitVec.toInt_eq_toNat_cond, Bool.eq_iff_iff]
  simp only [bne_iff_ne, ne_eq, decide_eq_decide, decide_eq_true_eq]
  split <;> omega

theorem shiftRight_one_eq (v : Byte) : v >>> 1 = BitVec.ofNat 8 (v.toNat / 2) := by
  apply BitVec.eq_of_toNat_eq
  have := v.isLt
  simp [Nat.shiftRight_eq_div_pow]
  omega

theorem shiftLeft_one_eq (v : Byte) : v <<< 1 = BitVec.ofNat 8 (2 * v.toNat) := by
  apply BitVec.eq_of_toNat_eq
  simp [Nat.shiftLeft_eq, Nat.mul_comm]

theorem not_eq_ofNat (v : Byte) : ~~~v = BitVec.ofNat 8 (255 - v.toNat) := by
  apply BitVec.eq_of_toNat_eq
  rw [not8_toNat, BitVec.toNat_ofNat]
  omega

theorem zero_sub_eq_ofInt (v : Byte) : 0 - v = BitVec.ofInt 8 (-v.toNat) := by
  rw [BitVec.ofInt_neg, BitVec.ofInt_natCast, BitVec.ofNat_toNat, BitVec.setWidth_eq, zero_sub]

theorem add_one_eq_ofNat (v : Byte) : v + 1 = BitVec.ofNat 8 (v.toNat + 1) := by
  apply BitVec.eq_of_toNat_eq
  rw [BitVec.toNat_add, BitVec.toNat_ofNat]
  rfl

theorem sub_one_eq_ofInt (v : Byte) : v - 1 = BitVec.ofInt 8 (v.toNat - 1) := by
  rw [Int.sub_eq_add_neg, BitVec.ofInt_add, BitVec.ofInt_natCast, BitVec.ofNat_toNat, BitVec.setWidth_eq]
  exact sub_eq_add_neg v 1

/-- The arithmetic shift keeps bit 7, so it halves the signed value. -/
theorem arithmeticHalf_eq (v : Byte) : (v >>> 1) ||| (v &&& 0x80) = BitVec.ofInt 8 (v.toInt / 2) := by
  have shift : (v >>> 1) ||| (v &&& 0x80) = v.sshiftRight 1 := by
    apply BitVec.eq_of_getLsbD_eq
    intro i hi
    interval_cases i <;> simp [BitVec.getElem_sshiftRight, BitVec.msb_eq_getLsbD_last]
  rw [shift, BitVec.sshiftRight, Int.shiftRight_eq_div_pow]
  rfl

/-- The rotation puts C in bit 0, which the shift left empty. -/
theorem rotateLeft_eq (v : Byte) (c : Bool) :
    (v <<< 1) ||| carryIn 8 c = BitVec.ofNat 8 (2 * v.toNat + c.toNat) := by
  have apart : (v <<< 1) &&& carryIn 8 c = 0 := by
    apply BitVec.eq_of_getLsbD_eq
    intro i hi
    interval_cases i <;> cases c <;> simp [carryIn]
  rw [← BitVec.add_eq_or_of_and_eq_zero _ _ apart, shiftLeft_one_eq, BitVec.ofNat_add]
  cases c <;> rfl

/-- The rotation puts C in bit 7, which the shift left empty. -/
theorem rotateRight_eq (v : Byte) (c : Bool) :
    (v >>> 1) ||| (carryIn 8 c <<< 7) = BitVec.ofNat 8 (v.toNat / 2 + 128 * c.toNat) := by
  have apart : (v >>> 1) &&& (carryIn 8 c <<< 7) = 0 := by
    apply BitVec.eq_of_getLsbD_eq
    intro i hi
    interval_cases i <;> cases c <;> simp [carryIn]
  rw [← BitVec.add_eq_or_of_and_eq_zero _ _ apart, shiftRight_one_eq, BitVec.ofNat_add]
  cases c <;> rfl

/-! ## Flags written after N and Z -/

section FlagsWritten

variable (r cc : Byte) (v c : Bool)

theorem flagsAre_putNZ_c : FlagsAre cc (putFlag .c c (putNZ r cc)) (onlyNZC (neg8 r) (r == 0) c) := by
  intro g
  cases g <;> simp [onlyNZC, msb_eq_neg8]

theorem flagsAre_putNZ_v : FlagsAre cc (putFlag .v v (putNZ r cc)) (onlyNZV (neg8 r) (r == 0) v) := by
  intro g
  cases g <;> simp [onlyNZV, msb_eq_neg8]

theorem flagsAre_putNZ_v_c :
    FlagsAre cc (putFlag .c c (putFlag .v v (putNZ r cc))) (onlyNZVC (neg8 r) (r == 0) v c) := by
  intro g
  cases g <;> simp [onlyNZVC, msb_eq_neg8]

theorem flagsAre_putNZ_c_v :
    FlagsAre cc (putFlag .v v (putFlag .c c (putNZ r cc))) (onlyNZVC (neg8 r) (r == 0) v c) := by
  intro g
  cases g <;> simp [onlyNZVC, msb_eq_neg8]

theorem flagsAre_clrCC : FlagsAre cc (clrCC cc) (onlyNZVC false true false false) := by
  intro g
  cases g <;> simp [onlyNZVC, clrCC]

end FlagsWritten

/-! ## The operations of one operand, in exact arithmetic

For each operation its result, then the flags it writes. -/

section Operations

variable (v cc : Byte)

theorem negOp_fst : (negOp v cc).1 = BitVec.ofInt 8 (-v.toNat) := zero_sub_eq_ofInt v

theorem flagsAre_negOp : FlagsAre cc (negOp v cc).2
    (onlyNZVC (neg8 (BitVec.ofInt 8 (-v.toNat))) (v == 0) (v == 0x80) (v != 0)) := by
  have zero : (0 - v == 0) = (v == 0) := by rw [Bool.eq_iff_iff]; simp
  rw [← zero_sub_eq_ofInt, ← zero]
  exact flagsAre_putNZ_v_c _ cc _ _

theorem incOp_fst (rule : IncVRule) : (incOp rule v cc).1 = BitVec.ofNat 8 (v.toNat + 1) := add_one_eq_ofNat v

/-- An increment gives 0 exactly from 0xFF, which is what the document rule's V asks as well. -/
theorem flagsAre_incOp (rule : IncVRule) : FlagsAre cc (incOp rule v cc).2
    (onlyNZV (neg8 (BitVec.ofNat 8 (v.toNat + 1))) (v == 0xFF)
      (match rule with | .document => v == 0xFF | .mc6809 => v == 0x7F)) := by
  have zero : (v + 1 == 0) = (v == 0xFF) := by
    rw [Bool.eq_iff_iff, beq_iff_eq, beq_iff_eq]
    bv_omega
  rw [← add_one_eq_ofNat, ← zero]
  cases rule <;> exact flagsAre_putNZ_v _ cc _

theorem decOp_fst : (decOp v cc).1 = BitVec.ofInt 8 (v.toNat - 1) := sub_one_eq_ofInt v

theorem flagsAre_decOp : FlagsAre cc (decOp v cc).2
    (onlyNZV (neg8 (BitVec.ofInt 8 (v.toNat - 1))) (v == 1) (v == 0x80)) := by
  have zero : (v - 1 == 0) = (v == 1) := by
    rw [Bool.eq_iff_iff, beq_iff_eq, beq_iff_eq]
    bv_omega
  rw [← sub_one_eq_ofInt, ← zero]
  exact flagsAre_putNZ_v _ cc _

theorem asrOp_fst : (asrOp v cc).1 = BitVec.ofInt 8 (v.toInt / 2) := arithmeticHalf_eq v

/-- The sign bit stays where it is, so N is the operand's. -/
theorem flagsAre_asrOp : FlagsAre cc (asrOp v cc).2
    (onlyNZC (neg8 v) (BitVec.ofInt 8 (v.toInt / 2) == 0) (decide (v.toNat % 2 = 1))) := by
  have sign : neg8 ((v >>> 1) ||| (v &&& 0x80)) = neg8 v := by
    rw [← bit7_eq_neg8, ← bit7_eq_neg8]
    simp
  rw [← arithmeticHalf_eq, ← sign, ← bit0_eq_odd]
  exact flagsAre_putNZ_c _ cc _

theorem lsrOp_fst : (lsrOp v cc).1 = BitVec.ofNat 8 (v.toNat / 2) := shiftRight_one_eq v

theorem flagsAre_lsrOp : FlagsAre cc (lsrOp v cc).2
    (onlyNZC false (decide (v.toNat < 2)) (decide (v.toNat % 2 = 1))) := by
  have sign : neg8 (v >>> 1) = false := by rw [← bit7_eq_neg8]; simp
  have zero : (v >>> 1 == 0) = decide (v.toNat < 2) := by
    have := v.isLt
    rw [shiftRight_one_eq, Bool.eq_iff_iff, beq_iff_eq, decide_eq_true_eq]
    bv_omega
  rw [← sign, ← zero, ← bit0_eq_odd]
  exact flagsAre_putNZ_c _ cc _

theorem aslOp_fst : (aslOp v cc).1 = BitVec.ofNat 8 (2 * v.toNat) := shiftLeft_one_eq v

theorem flagsAre_aslOp : FlagsAre cc (aslOp v cc).2
    (onlyNZVC (neg8 (BitVec.ofNat 8 (2 * v.toNat))) (BitVec.ofNat 8 (2 * v.toNat) == 0)
      (outside8 (2 * v.toInt)) (neg8 v)) := by
  rw [← shiftLeft_one_eq, ← bit7_xor_bit6, ← bit7_eq_neg8 v]
  exact flagsAre_putNZ_c_v _ cc _ _

theorem comOp_fst : (comOp v cc).1 = BitVec.ofNat 8 (255 - v.toNat) := not_eq_ofNat v

theorem flagsAre_comOp : FlagsAre cc (comOp v cc).2 (onlyNZVC (!neg8 v) (v == 0xFF) false true) := by
  have sign : neg8 (~~~v) = !neg8 v := by rw [← bit7_eq_neg8, ← bit7_eq_neg8]; simp
  have zero : (~~~v == 0) = (v == 0xFF) := by
    rw [Bool.eq_iff_iff, beq_iff_eq, beq_iff_eq]
    bv_omega
  rw [← sign, ← zero]
  exact flagsAre_putNZ_v_c _ cc _ _

theorem rolOp_fst : (rolOp v cc).1 = BitVec.ofNat 8 (2 * v.toNat + (flag .c cc).toNat) :=
  rotateLeft_eq v _

theorem flagsAre_rolOp : FlagsAre cc (rolOp v cc).2
    (onlyNZVC (neg8 (BitVec.ofNat 8 (2 * v.toNat + (flag .c cc).toNat)))
      (BitVec.ofNat 8 (2 * v.toNat + (flag .c cc).toNat) == 0) (outside8 (2 * v.toInt)) (neg8 v)) := by
  rw [← rotateLeft_eq, ← bit7_xor_bit6, ← bit7_eq_neg8 v]
  exact flagsAre_putNZ_c_v _ cc _ _

theorem rorOp_fst : (rorOp v cc).1 = BitVec.ofNat 8 (v.toNat / 2 + 128 * (flag .c cc).toNat) :=
  rotateRight_eq v _

/-- C comes in at bit 7, so N is the old C. -/
theorem flagsAre_rorOp : FlagsAre cc (rorOp v cc).2
    (onlyNZC (flag .c cc) (BitVec.ofNat 8 (v.toNat / 2 + 128 * (flag .c cc).toNat) == 0)
      (decide (v.toNat % 2 = 1))) := by
  have sign : neg8 ((v >>> 1) ||| (carryIn 8 (flag .c cc) <<< 7)) = flag .c cc := by
    rw [← bit7_eq_neg8]
    cases flag .c cc <;> simp [carryIn]
  have written := flagsAre_putNZ_c ((v >>> 1) ||| (carryIn 8 (flag .c cc) <<< 7)) cc (v.getLsbD 0)
  rw [sign] at written
  rw [← rotateRight_eq, ← bit0_eq_odd]
  exact written

/-- A test writes N and Z from the value and clears V. -/
theorem flagsAre_putNZ0 : FlagsAre cc (putNZ0 v cc) (onlyNZV (neg8 v) (v == 0) false) :=
  flagsAre_putNZ_v v cc false

end Operations

/-! ## Read-modify-write -/

/-- Computing an address and reading a byte there keep the parameters. -/
theorem cfg_of_effAddr_read8 {e : Ea} {s t u : State} {ea : Word} {v : Byte} (hea : effAddr e s = .ok ea t)
    (hr : read8 ea t = .ok v u) : u.cfg = s.cfg := by
  obtain ⟨-, addr⟩ := (readOnly_effAddr e).mem_cfg hea
  obtain ⟨-, read⟩ := (readOnly_read8 ea).mem_cfg hr
  exact read.trans addr

/-- An instruction completes as a read-modify-write when its meaning is `modifyMem` of an operation, which the
parameters may choose, with that result and those flags. -/
theorem completesRmw_of_modifyMem {g : Config → Prop} {k : Ea → Instr} {op : Config → Byte → Byte → Byte × Byte}
    {f : State → Byte → Byte} {fl : State → Byte → Flag → Option Bool}
    (hexec : ∀ e s t, g s.cfg → modifyMem e (op s.cfg) (start (k e) s) = .ok ⟨⟩ t → exec (k e) s = .next t)
    (hres : ∀ u v, (op u.cfg v u.cc).1 = f u v)
    (hfl : ∀ u v, FlagsAre u.cc (op u.cfg v u.cc).2 (fl u v)) : CompletesRmw g k f fl := by
  intro e s t u w ea v hg hea hr hw
  have cfg : u.cfg = s.cfg := cfg_of_effAddr_read8 (s := start (k e) s) hea hr
  refine ⟨(op u.cfg v u.cc).2, hexec e s _ hg (modifyMem_ok hea hr ?_), hfl u v⟩
  rw [← cfg, hres]
  exact write8_withCC _ hw

/-- Settles O23: the address, the write and CC of CLR; NEG, INC and DEC are `modifyMem` of their operations. -/
theorem memoryArithmeticComplete : Obligations.MemoryArithmeticComplete := by
  refine ⟨fun e s t w ea hea hw => ?clr, ?neg, ?inc, ?dec⟩
  case clr =>
    have cc : t.cc = w.cc := by
      obtain ⟨m, rfl⟩ | ⟨-, via, psg, rfl⟩ := write8_frame hw <;> rfl
    exact ⟨clrCC w.cc, perform_ok ((M.bind_ok hea).trans (M.bind_ok hw)), cc ▸ flagsAre_clrCC t.cc⟩
  case neg =>
    exact completesRmw_of_modifyMem (op := fun _ => negOp) (fun _ _ _ _ => perform_ok)
      (fun u v => negOp_fst v u.cc) fun u v => flagsAre_negOp v u.cc
  case inc =>
    exact completesRmw_of_modifyMem (op := fun c => incOp c.incVRule) (fun _ _ _ _ => perform_ok)
      (fun u v => incOp_fst v u.cc _) fun u v => flagsAre_incOp v u.cc _
  case dec =>
    exact completesRmw_of_modifyMem (op := fun _ => decOp) (fun _ _ _ _ => perform_ok)
      (fun u v => decOp_fst v u.cc) fun u v => flagsAre_decOp v u.cc

/-- Settles O24: each shift is `modifyMem` of its operation, ROL and ROR behind the gate; TST is a read and CC. -/
theorem memoryShiftsComplete : Obligations.MemoryShiftsComplete := by
  refine ⟨?asr, ?lsr, ?asl, ?com, ?rol, ?ror, fun e s t u ea v hea hr => ?tst⟩
  case asr =>
    exact completesRmw_of_modifyMem (op := fun _ => asrOp) (fun _ _ _ _ => perform_ok)
      (fun u v => asrOp_fst v u.cc) fun u v => flagsAre_asrOp v u.cc
  case lsr =>
    exact completesRmw_of_modifyMem (op := fun _ => lsrOp) (fun _ _ _ _ => perform_ok)
      (fun u v => lsrOp_fst v u.cc) fun u v => flagsAre_lsrOp v u.cc
  case asl =>
    exact completesRmw_of_modifyMem (op := fun _ => aslOp) (fun _ _ _ _ => perform_ok)
      (fun u v => aslOp_fst v u.cc) fun u v => flagsAre_aslOp v u.cc
  case com =>
    exact completesRmw_of_modifyMem (op := fun _ => comOp) (fun _ _ _ _ => perform_ok)
      (fun u v => comOp_fst v u.cc) fun u v => flagsAre_comOp v u.cc
  case rol =>
    exact completesRmw_of_modifyMem (op := fun _ => rolOp) (fun _ _ _ hg => performGated_ok hg)
      (fun u v => rolOp_fst v u.cc) fun u v => flagsAre_rolOp v u.cc
  case ror =>
    exact completesRmw_of_modifyMem (op := fun _ => rorOp) (fun _ _ _ hg => performGated_ok hg)
      (fun u v => rorOp_fst v u.cc) fun u v => flagsAre_rorOp v u.cc
  case tst =>
    exact ⟨putNZ0 v u.cc, perform_ok (M.bind_ok ((readOperand8_mem hea).trans hr)), flagsAre_putNZ0 v u.cc⟩

end Sys2Proof.Machine

/-!
O14 to O17, loads, stores and load effective address (spec/41_load_store.md R170 to R188). One argument serves each
shape: its body, once the operand, the address or the write is known, and the flags N, Z and V or Z alone. That a
store reaches memory follows from its completion, since a write to a storable address always answers.
-/
namespace Sys2Proof.Machine

/-- The instruction, with every operand, has the base-set meaning of its body. -/
def Performs {α : Type} (k : α → Instr) (body : α → M Unit) : Prop :=
  ∀ x s, exec (k x) s = perform (k x) (body x) s

/-- Where its body answers, the instruction answers the body's state. -/
theorem Performs.exec_eq_next {α : Type} {k : α → Instr} {body : α → M Unit} (hk : Performs k body) {x : α}
    {s t : State} (h : body x (start (k x) s) = .ok ⟨⟩ t) : exec (k x) s = .next t :=
  (hk x s).trans (perform_ok h)

/-! ## Flags of a word and of an address -/

theorem flagsAre_putNZ0_word (v : Word) (cc : Byte) :
    FlagsAre cc (putNZ0 v cc) (onlyNZV (neg16 v) (v == 0) false) := by
  intro g
  cases g <;> simp [onlyNZV, msb_eq_neg16]

theorem flagsAre_putFlag_z (z : Bool) (cc : Byte) : FlagsAre cc (putFlag .z z cc) (onlyZ z) := by
  intro g
  cases g <;> simp [onlyZ]

/-! ## Loads -/

theorem completes8_of_load {k : Src8 → Instr} {r : Reg8}
    (hk : Performs k (alu8 r fun _ v cc => ldOp v v cc)) :
    Completes8 always k (fun t v => t.set8 r v) fun _ v => onlyNZV (neg8 v) (v == 0) false :=
  fun _ _ t v _ hv => ⟨putNZ0 v t.cc, hk.exec_eq_next (alu8_ok hv), flagsAre_putNZ0 v t.cc⟩

theorem completes16_of_load {k : Src16 → Instr} {r : Reg16}
    (hk : Performs k (alu16 r fun _ v cc => ldOp v v cc)) :
    Completes16 always k (fun t v => t.set16 r v) fun _ v => onlyNZV (neg16 v) (v == 0) false :=
  fun _ _ t v _ hv => ⟨putNZ0 v t.cc, hk.exec_eq_next (alu16_ok hv), flagsAre_putNZ0_word v t.cc⟩

/-- Settles O14: every load is the one operation `ldOp` on its register; a write of D is the writes of A and B. -/
theorem loadsComplete : Obligations.LoadsComplete := by
  refine ⟨?lda, ?ldb, ?ldd, ?ldx, ?ldy, ?ldu, ?lds⟩
  case lda | ldb => exact completes8_of_load fun _ _ => rfl
  case ldd => exact completes16_of_load (r := .d) fun _ _ => rfl
  case ldx | ldy | ldu | lds => exact completes16_of_load fun _ _ => rfl

/-! ## Stores -/

/-- A bus write leaves CC. -/
theorem cc_of_write8 {a : Word} {v : Byte} {s t : State} (h : write8 a v s = .ok ⟨⟩ t) : t.cc = s.cc := by
  obtain ⟨m, rfl⟩ | ⟨-, via, psg, rfl⟩ := write8_frame h <;> rfl

/-- The write of a word is the writes of its two bytes, the high one first (R150). -/
theorem write16_of_write8 {a v : Word} {s t u : State} (hh : write8 a (hiByte v) s = .ok ⟨⟩ t)
    (hl : write8 (a + 1) (loByte v) t = .ok ⟨⟩ u) : write16 a v s = .ok ⟨⟩ u :=
  (M.bind_ok hh).trans hl

theorem completesStore8_of_store {k : Ea → Instr} {r : Reg8} (hk : Performs k (store8 r)) :
    CompletesStore8 k r := by
  intro e s t u ea hea hw
  refine ⟨_, hk.exec_eq_next (store8_ok hea hw), ?_⟩
  rw [cc_of_write8 hw]
  exact flagsAre_putNZ0 _ _

theorem completesStore16_of_store {k : Ea → Instr} {r : Reg16} (hk : Performs k (store16 r)) :
    CompletesStore16 k r := by
  intro e s t u w ea hea hh hl
  refine ⟨_, hk.exec_eq_next (store16_ok hea (write16_of_write8 hh hl)), ?_⟩
  rw [cc_of_write8 hl, cc_of_write8 hh]
  exact flagsAre_putNZ0_word _ _

/-- Settles O15: every store is `store8` or `store16` of its register, and the writes leave CC to the flags. -/
theorem storesComplete : Obligations.StoresComplete := by
  refine ⟨?sta, ?stb, ?std, ?stx, ?sty, ?stu, ?sts⟩
  case sta | stb => exact completesStore8_of_store fun _ _ => rfl
  case std | stx | sty | stu | sts => exact completesStore16_of_store fun _ _ => rfl

/-! ## Stores that reach memory -/

/-- Computing an address leaves memory and the parameters of the state the instruction started from. -/
theorem mem_cfg_of_effAddr {i : Instr} {e : Ea} {s t : State} {ea : Word}
    (h : effAddr e (start i s) = .ok ea t) : t.mem = s.mem ∧ t.cfg = s.cfg :=
  (readOnly_effAddr e).mem_cfg (s := start i s) h

/-- Two storable bytes in a row have two cells, across the seam of the two copies of RAM too. -/
theorem cellKey_ne_succ {bus : BusConfig} {a : Word} (h : storable bus a = true)
    (h1 : storable bus (a + 1) = true) : cellKey bus a ≠ cellKey bus (a + 1) := by
  have succ : (a + 1).toNat = (a.toNat + 1) % 65536 := BitVec.toNat_add a 1
  cases bus with
  | flatTest =>
    change a.toNat ≠ (a + 1).toNat
    omega
  | vectrex =>
    rw [storable_vectrex_iff] at h h1
    rw [cellKey_of_ram ((region_vectrex_eq_ram_iff a).mpr h),
      cellKey_of_ram ((region_vectrex_eq_ram_iff (a + 1)).mpr h1)]
    omega

/-- A write of a storable byte of canonical memory answers, the byte reads as written and memory stays canonical. -/
theorem write8_reaches {s : State} {a : Word} (hm : s.mem.wf = true) (h : storable s.cfg.bus a = true) (v : Byte) :
    ∃ t, write8 a v s = .ok ⟨⟩ t ∧ t.peek a = some v ∧ t.mem.wf = true ∧ t.cfg = s.cfg :=
  ⟨_, write8_of_storable h v, peek_put_same s a v hm h, Memory.wf_put _ hm _ v, rfl⟩

/-- The writes of two storable bytes in a row answer, and the word they make reads as it was written. -/
theorem write8_pair_reaches {s : State} {a : Word} (hm : s.mem.wf = true) (h : storable s.cfg.bus a = true)
    (h1 : storable s.cfg.bus (a + 1) = true) (v : Word) :
    ∃ t u, write8 a (hiByte v) s = .ok ⟨⟩ t ∧ write8 (a + 1) (loByte v) t = .ok ⟨⟩ u ∧ u.wordAt a = v := by
  obtain ⟨t, hh, high, hmt, cfg⟩ := write8_reaches hm h (hiByte v)
  rw [← cfg] at h h1
  obtain ⟨u, hl, low, -, -⟩ := write8_reaches hmt h1 (loByte v)
  have kept : u.peek a = t.peek a :=
    (storesTo_write8 _ _ hl).2 a (List.forall_mem_singleton.mpr (cellKey_ne_succ h h1))
  refine ⟨t, u, hh, hl, ?_⟩
  rw [State.wordAt, State.byteAt, State.byteAt, kept, high, low]
  exact joinBytes_hi_lo v

theorem reaches8_of_completesStore8 {k : Ea → Instr} {r : Reg8} (hk : CompletesStore8 k r) : Reaches8 k r := by
  intro e s t ea hm hea hs
  obtain ⟨mem, cfg⟩ := mem_cfg_of_effAddr hea
  rw [← mem] at hm
  rw [← cfg] at hs
  obtain ⟨u, hw, byte, -, -⟩ := write8_reaches hm hs (t.get8 r)
  obtain ⟨cc, hexec, -⟩ := hk e s t u ea hea hw
  obtain ⟨-, outside⟩ := storesTo_write8 _ _ hw
  exact ⟨_, hexec, byte, (SameBytesOutside.of_mem_eq mem cfg []).trans cfg outside⟩

theorem reaches16_of_completesStore16 {k : Ea → Instr} {r : Reg16} (hk : CompletesStore16 k r) :
    Reaches16 k r := by
  intro e s t ea hm hea hs hs1
  obtain ⟨mem, cfg⟩ := mem_cfg_of_effAddr hea
  rw [← mem] at hm
  rw [← cfg] at hs hs1
  obtain ⟨u, w, hh, hl, word⟩ := write8_pair_reaches hm hs hs1 (t.get16 r)
  obtain ⟨cc, hexec, -⟩ := hk e s t u w ea hea hh hl
  obtain ⟨-, outside⟩ := storesTo_write16 _ _ (write16_of_write8 hh hl)
  exact ⟨_, hexec, word, (SameBytesOutside.of_mem_eq mem cfg []).trans cfg outside⟩

/-- Settles O16: a store completes (O15) wherever its writes answer, and writes to storable bytes do. -/
theorem storesReachMemory : Obligations.StoresReachMemory := by
  obtain ⟨sta, stb, std, stx, sty, stu, sts⟩ := storesComplete
  exact ⟨reaches8_of_completesStore8 sta, reaches8_of_completesStore8 stb, reaches16_of_completesStore16 std,
    reaches16_of_completesStore16 stx, reaches16_of_completesStore16 sty, reaches16_of_completesStore16 stu,
    reaches16_of_completesStore16 sts⟩

/-! ## Load effective address -/

/-- A load of an effective address, after the address is computed. -/
theorem loadEa_ok {r : Reg16} {setsZ : Bool} {x : Idx} {s t : State} {ea : Word}
    (h : indexedEa x s = .ok ea t) :
    loadEa r setsZ x s =
      .ok ⟨⟩ ((t.set16 r ea).withCC (if setsZ then putFlag .z (ea == 0) t.cc else t.cc)) :=
  M.bind_ok h

theorem exec_of_lea_z {k : Idx → Instr} {r : Reg16} (hk : Performs k (loadEa r true)) {x : Idx} {s t : State}
    {ea : Word} (h : indexedEa x (start (k x) s) = .ok ea t) :
    ∃ cc, exec (k x) s = .next ((t.set16 r ea).withCC cc) ∧ FlagsAre t.cc cc (onlyZ (ea == 0)) :=
  ⟨_, hk.exec_eq_next (loadEa_ok h), flagsAre_putFlag_z _ _⟩

/-- Writing back the CC that stands there changes nothing. -/
theorem exec_of_lea_keeps_cc {k : Idx → Instr} {r : Reg16} (hk : Performs k (loadEa r false)) {x : Idx}
    {s t : State} {ea : Word} (h : indexedEa x (start (k x) s) = .ok ea t) :
    exec (k x) s = .next (t.set16 r ea) := by
  have same : (t.set16 r ea).withCC t.cc = t.set16 r ea := by
    rw [← State.set16_cc t r ea]
    rfl
  rw [hk.exec_eq_next (loadEa_ok h)]
  exact congrArg _ same

/-- Settles O17: LEAX and LEAY are `loadEa` that sets Z, LEAU and LEAS `loadEa` that does not. -/
theorem leaComplete : Obligations.LeaComplete := by
  intro x s t ea
  exact ⟨exec_of_lea_z fun _ _ => rfl, exec_of_lea_z fun _ _ => rfl, exec_of_lea_keeps_cc fun _ _ => rfl,
    exec_of_lea_keeps_cc fun _ _ => rfl⟩

end Sys2Proof.Machine

/-!
O18 to O21, O29 and O35, addition, subtraction and comparison (spec/42_arithmetic.md R200 to R231, spec/44_control.md
R306, spec/46_extension.md R384). Every operation is one addition of the model, `addWide`, whose parts the laws give
in exact arithmetic; the flags it writes follow once for each shape of operation, and one argument for each shape of
instruction turns an operation into its completion.
-/
namespace Sys2Proof.Machine

/-! ## Instructions that answer what their body answers -/

/-- Where the configuration lets it run, the instruction, with every operand, answers what its body answers. -/
def Answers {α : Type} (g : Config → Prop) (k : α → Instr) (body : α → M Unit) : Prop :=
  ∀ x s t, g s.cfg → body x (start (k x) s) = .ok ⟨⟩ t → exec (k x) s = .next t

theorem answers_of_perform {α : Type} {k : α → Instr} {body : α → M Unit} (hk : Performs k body) :
    Answers always k body :=
  fun _ _ _ _ => hk.exec_eq_next

theorem answers_of_performGated {α : Type} {k : α → Instr} {body : α → M Unit}
    (hk : ∀ x s, exec (k x) s = performGated .extension (k x) (body x) s) : Answers extended k body :=
  fun x s _ hg h => (hk x s).trans (performGated_ok hg h)

/-! ## Shapes of instructions -/

section Shapes

variable {g : Config → Prop} {r8 : Reg8} {r16 : Reg16} {k8 : Src8 → Instr} {k16 : Src16 → Instr}
  {op8 : Byte → Byte → Byte → Byte × Byte} {op16 : Word → Word → Byte → Word × Byte}
  {fl8 : State → Byte → Flag → Option Bool} {fl16 : State → Word → Flag → Option Bool}

theorem completes8_of_alu8 {f : State → Byte → Byte} (hk : Answers g k8 (alu8 r8 op8))
    (hres : ∀ t v, (op8 (t.get8 r8) v t.cc).1 = f t v)
    (hfl : ∀ t v, FlagsAre t.cc (op8 (t.get8 r8) v t.cc).2 (fl8 t v)) :
    Completes8 g k8 (fun t v => t.set8 r8 (f t v)) fl8 := by
  intro m s t v hg hv
  refine ⟨_, hk m s _ hg ?_, hfl t v⟩
  simp only [← hres]
  exact alu8_ok hv

theorem completes8_of_test8 (hk : Answers g k8 (test8 r8 op8))
    (hfl : ∀ t v, FlagsAre t.cc (op8 (t.get8 r8) v t.cc).2 (fl8 t v)) :
    Completes8 g k8 (fun t _ => t) fl8 :=
  fun m s t v hg hv => ⟨_, hk m s _ hg (test8_ok hv), hfl t v⟩

theorem completes16_of_alu16 {f : State → Word → Word} (hk : Answers g k16 (alu16 r16 op16))
    (hres : ∀ t v, (op16 (t.get16 r16) v t.cc).1 = f t v)
    (hfl : ∀ t v, FlagsAre t.cc (op16 (t.get16 r16) v t.cc).2 (fl16 t v)) :
    Completes16 g k16 (fun t v => t.set16 r16 (f t v)) fl16 := by
  intro m s t v hg hv
  refine ⟨_, hk m s _ hg ?_, hfl t v⟩
  simp only [← hres]
  exact alu16_ok hv

theorem completes16_of_test16 (hk : Answers g k16 (test16 r16 op16))
    (hfl : ∀ t v, FlagsAre t.cc (op16 (t.get16 r16) v t.cc).2 (fl16 t v)) :
    Completes16 g k16 (fun t _ => t) fl16 :=
  fun m s t v hg hv => ⟨_, hk m s _ hg (test16_ok hv), hfl t v⟩

/-- An operation on an accumulator, which the parameters may choose. -/
theorem completesInh_of_modifyReg {i : Instr} {op : Config → Byte → Byte → Byte × Byte} {f : State → Byte}
    {fl : State → Flag → Option Bool}
    (hk : ∀ s t, g s.cfg → modifyReg r8 (op s.cfg) (start i s) = .ok ⟨⟩ t → exec i s = .next t)
    (hres : ∀ s, (op s.cfg (s.get8 r8) s.cc).1 = f s)
    (hfl : ∀ s, FlagsAre s.cc (op s.cfg (s.get8 r8) s.cc).2 (fl s)) :
    CompletesInh g i (fun s => s.set8 r8 (f s)) fl := by
  intro s hg
  refine ⟨_, hk s _ hg ?_, hfl s⟩
  simp only [← hres]
  rfl

end Shapes

/-! ## Flags of an addition -/

theorem flagsAre_putNZVC {w : Nat} (t : Arith w) (cc : Byte) :
    FlagsAre cc (putNZVC t cc) (onlyNZVC t.n t.z t.v t.c) := by
  intro g
  cases g <;> simp [onlyNZVC]

theorem flagsAre_putNZVC_h {w : Nat} (t : Arith w) (h : Bool) (cc : Byte) :
    FlagsAre cc (putFlag .h h (putNZVC t cc)) (onlyHNZVC h t.n t.z t.v t.c) := by
  intro g
  cases g <;> simp [onlyHNZVC]

/-! ## Additions of bytes -/

section AddBytes

variable (a m cc : Byte)

theorem adcOp_fst : (adcOp a m cc).1 = BitVec.ofNat 8 (a.toNat + m.toNat + (flag .c cc).toNat) :=
  addWide_r (by decide) a m _

/-- The flags of an addition with the carry `c` coming in. -/
theorem flagsAre_add8 (c : Bool) :
    FlagsAre cc (putFlag .h (halfCarry a m c) (putNZVC (add8 a m c) cc))
      (onlyHNZVC (decide (15 < a.toNat % 16 + m.toNat % 16 + c.toNat))
        (neg8 (BitVec.ofNat 8 (a.toNat + m.toNat + c.toNat)))
        (BitVec.ofNat 8 (a.toNat + m.toNat + c.toNat) == 0)
        (outside8 (a.toInt + m.toInt + c.toNat))
        (decide (255 < a.toNat + m.toNat + c.toNat))) := by
  have written := flagsAre_putNZVC_h (add8 a m c) (halfCarry a m c) cc
  have carry : (add8 a m c).c = decide (255 < a.toNat + m.toNat + c.toNat) := addWide_c (by decide) a m c
  have sum : (add8 a m c).r = BitVec.ofNat 8 (a.toNat + m.toNat + c.toNat) := addWide_r (by decide) a m c
  have sign : (add8 a m c).n = neg8 (add8 a m c).r := msb_eq_neg8 _
  have zero : (add8 a m c).z = ((add8 a m c).r == 0) := rfl
  rwa [halfCarry_eq, sign, zero, sum, add8_v, carry] at written

theorem flagsAre_adcOp : FlagsAre cc (adcOp a m cc).2
    (onlyHNZVC (decide (15 < a.toNat % 16 + m.toNat % 16 + (flag .c cc).toNat))
      (neg8 (BitVec.ofNat 8 (a.toNat + m.toNat + (flag .c cc).toNat)))
      (BitVec.ofNat 8 (a.toNat + m.toNat + (flag .c cc).toNat) == 0)
      (outside8 (a.toInt + m.toInt + (flag .c cc).toNat))
      (decide (255 < a.toNat + m.toNat + (flag .c cc).toNat))) :=
  flagsAre_add8 a m cc _

theorem addOp_fst : (addOp a m cc).1 = BitVec.ofNat 8 (a.toNat + m.toNat) :=
  addWide_r (by decide) a m false

/-- An addition without carry is one whose carry in is 0. -/
theorem flagsAre_addOp : FlagsAre cc (addOp a m cc).2
    (onlyHNZVC (decide (15 < a.toNat % 16 + m.toNat % 16)) (neg8 (BitVec.ofNat 8 (a.toNat + m.toNat)))
      (BitVec.ofNat 8 (a.toNat + m.toNat) == 0) (outside8 (a.toInt + m.toInt))
      (decide (255 < a.toNat + m.toNat))) := by
  have written := flagsAre_add8 a m cc false
  simp only [Bool.toNat_false, Nat.cast_zero, add_zero] at written
  exact written

end AddBytes

/-- Settles O18: ADD and ADC are `alu8` of one addition, with no carry in or with C. -/
theorem addComplete : Obligations.AddComplete := by
  refine ⟨?adda, ?addb, ?adca, ?adcb⟩
  case adda | addb =>
    exact completes8_of_alu8 (answers_of_perform fun _ _ => rfl) (fun t v => addOp_fst _ v t.cc)
      fun t v => flagsAre_addOp _ v t.cc
  case adca | adcb =>
    exact completes8_of_alu8 (answers_of_perform fun _ _ => rfl) (fun t v => adcOp_fst _ v t.cc)
      fun t v => flagsAre_adcOp _ v t.cc

/-! ## Subtractions of bytes -/

section SubtractBytes

variable (a m cc : Byte)

theorem subOp_fst : (subOp a m cc).1 = BitVec.ofInt 8 (a.toNat - m.toNat) := sub8_r a m

theorem flagsAre_subOp : FlagsAre cc (subOp a m cc).2
    (onlyNZVC (neg8 (BitVec.ofInt 8 (a.toNat - m.toNat))) (BitVec.ofInt 8 (a.toNat - m.toNat) == 0)
      (outside8 (a.toInt - m.toInt)) (decide (a.toNat < m.toNat))) := by
  have written := flagsAre_putNZVC (sub8 a m) cc
  rwa [sub8_n, sub8_z, msb_eq_neg8, sub8_r, sub8_v, sub8_c] at written

theorem sbcOp_fst : (sbcOp a m cc).1 = BitVec.ofInt 8 (a.toNat - m.toNat - (flag .c cc).toNat) :=
  subBorrow8_r a m _

/-- A subtraction with borrow is the addition of the complement, its carries in and out inverted. -/
theorem flagsAre_sbcOp : FlagsAre cc (sbcOp a m cc).2
    (onlyNZVC (neg8 (BitVec.ofInt 8 (a.toNat - m.toNat - (flag .c cc).toNat)))
      (BitVec.ofInt 8 (a.toNat - m.toNat - (flag .c cc).toNat) == 0)
      (outside8 (a.toInt - m.toInt - (flag .c cc).toNat))
      (decide (a.toNat < m.toNat + (flag .c cc).toNat))) := by
  rw [← subBorrow8_r, ← subBorrow8_v, ← subBorrow8_c, ← msb_eq_neg8]
  exact flagsAre_putNZVC _ cc

end SubtractBytes

/-- A compare of an 8-bit register, with the register read as `get8` reads it. -/
theorem completes8_of_compare {k : Src8 → Instr} (r : Reg8) (hk : Performs k (test8 r subOp)) :
    Completes8 always k (fun t _ => t) fun t v =>
      onlyNZVC (neg8 (BitVec.ofInt 8 ((t.get8 r).toNat - v.toNat)))
        (BitVec.ofInt 8 ((t.get8 r).toNat - v.toNat) == 0) (outside8 ((t.get8 r).toInt - v.toInt))
        (decide ((t.get8 r).toNat < v.toNat)) :=
  completes8_of_test8 (answers_of_perform hk) fun t v => flagsAre_subOp _ v t.cc

/-- Settles O19: SUB and SBC are `alu8` of a subtraction, SBC behind the gate, and CMP is `test8` of SUB's. -/
theorem subtractAndCompareComplete : Obligations.SubtractAndCompareComplete := by
  refine ⟨?suba, ?subb, ?cmpa, ?cmpb, ?sbca, ?sbcb⟩
  case suba | subb =>
    exact completes8_of_alu8 (answers_of_perform fun _ _ => rfl) (fun t v => subOp_fst _ v t.cc)
      fun t v => flagsAre_subOp _ v t.cc
  case cmpa => exact completes8_of_compare .a fun _ _ => rfl
  case cmpb => exact completes8_of_compare .b fun _ _ => rfl
  case sbca | sbcb =>
    exact completes8_of_alu8 (answers_of_performGated fun _ _ => rfl) (fun t v => sbcOp_fst _ v t.cc)
      fun t v => flagsAre_sbcOp _ v t.cc

/-! ## Additions and subtractions of words -/

section Words

variable (d m : Word) (cc : Byte)

theorem addWordOp_fst : (addWordOp d m cc).1 = BitVec.ofNat 16 (d.toNat + m.toNat) :=
  addWide_r (by decide) d m false

theorem flagsAre_addWordOp : FlagsAre cc (addWordOp d m cc).2
    (onlyNZVC (neg16 (BitVec.ofNat 16 (d.toNat + m.toNat))) (BitVec.ofNat 16 (d.toNat + m.toNat) == 0)
      (outside16 (d.toInt + m.toInt)) (decide (65535 < d.toNat + m.toNat))) := by
  have written := flagsAre_putNZVC (add16 d m) cc
  have carry : (add16 d m).c = decide (65535 < d.toNat + m.toNat) := addWide_c (by decide) d m false
  have overflow : (add16 d m).v = outside16 (d.toInt + m.toInt) := by
    have signed := addWide16_v d m false
    rwa [Bool.toNat_false, Nat.cast_zero, add_zero] at signed
  have sign : (add16 d m).n = neg16 (add16 d m).r := msb_eq_neg16 _
  have zero : (add16 d m).z = ((add16 d m).r == 0) := rfl
  have sum : (add16 d m).r = BitVec.ofNat 16 (d.toNat + m.toNat) := addWide_r (by decide) d m false
  rwa [sign, zero, sum, overflow, carry] at written

theorem subWordOp_fst : (subWordOp d m cc).1 = BitVec.ofInt 16 (d.toNat - m.toNat) := sub16_r d m

theorem flagsAre_subWordOp : FlagsAre cc (subWordOp d m cc).2
    (onlyNZVC (neg16 (BitVec.ofInt 16 (d.toNat - m.toNat))) (BitVec.ofInt 16 (d.toNat - m.toNat) == 0)
      (outside16 (d.toInt - m.toInt)) (decide (d.toNat < m.toNat))) := by
  have written := flagsAre_putNZVC (sub16 d m) cc
  rwa [sub16_n, sub16_z, msb_eq_neg16, sub16_r, sub16_v, sub16_c] at written

end Words

/-- A compare of a 16-bit register, with the register read as `get16` reads it. -/
theorem completes16_of_compare {k : Src16 → Instr} (r : Reg16) (hk : Performs k (test16 r subWordOp)) :
    Completes16 always k (fun t _ => t) fun t v =>
      onlyNZVC (neg16 (BitVec.ofInt 16 ((t.get16 r).toNat - v.toNat)))
        (BitVec.ofInt 16 ((t.get16 r).toNat - v.toNat) == 0) (outside16 ((t.get16 r).toInt - v.toInt))
        (decide ((t.get16 r).toNat < v.toNat)) :=
  completes16_of_test16 (answers_of_perform hk) fun t v => flagsAre_subWordOp _ v t.cc

/-- Settles O20: ADDD and SUBD are `alu16` of their operation, and every compare is `test16` of SUBD's. -/
theorem wordArithmeticComplete : Obligations.WordArithmeticComplete := by
  refine ⟨?addd, ?subd, ?cmpd, ?cmpx, ?cmpy, ?cmpu, ?cmps⟩
  case addd =>
    exact completes16_of_alu16 (answers_of_perform fun _ _ => rfl) (fun t v => addWordOp_fst _ v t.cc)
      fun t v => flagsAre_addWordOp _ v t.cc
  case subd =>
    exact completes16_of_alu16 (answers_of_perform fun _ _ => rfl) (fun t v => subWordOp_fst _ v t.cc)
      fun t v => flagsAre_subWordOp _ v t.cc
  case cmpd => exact completes16_of_compare .d fun _ _ => rfl
  case cmpx => exact completes16_of_compare .x fun _ _ => rfl
  case cmpy => exact completes16_of_compare .y fun _ _ => rfl
  case cmpu => exact completes16_of_compare .u fun _ _ => rfl
  case cmps => exact completes16_of_compare .s fun _ _ => rfl

/-! ## Accumulators -/

theorem completesInh_of_clear {i : Instr} {r : Reg8}
    (hk : ∀ s, exec i s = perform i (modify fun t => (t.set8 r 0).withCC (clrCC t.cc)) s) :
    CompletesInh always i (fun s => s.set8 r 0) fun _ => onlyNZVC false true false false :=
  fun s _ => ⟨clrCC s.cc, (hk s).trans (perform_ok rfl), flagsAre_clrCC s.cc⟩

/-- Settles O21: CLR writes 0 and its flags; NEG, INC and DEC are `modifyReg` of the operations that O23 applies to
memory. -/
theorem accumulatorArithmeticComplete : Obligations.AccumulatorArithmeticComplete := by
  refine ⟨?clra, ?nega, ?inca, ?deca, ?clrb, ?negb, ?incb, ?decb⟩
  case clra | clrb => exact completesInh_of_clear fun _ => rfl
  case nega | negb =>
    exact completesInh_of_modifyReg (op := fun _ => negOp) (fun _ _ _ => perform_ok)
      (fun s => negOp_fst _ s.cc) fun s => flagsAre_negOp _ s.cc
  case inca | incb =>
    exact completesInh_of_modifyReg (op := fun c => incOp c.incVRule) (fun _ _ _ => perform_ok)
      (fun s => incOp_fst _ s.cc _) fun s => flagsAre_incOp _ s.cc _
  case deca | decb =>
    exact completesInh_of_modifyReg (op := fun _ => decOp) (fun _ _ _ => perform_ok)
      (fun s => decOp_fst _ s.cc) fun s => flagsAre_decOp _ s.cc

/-! ## Branches after a compare -/

section Compare

variable (a m : Byte)

/-- The difference is 0 exactly for equal bytes. -/
theorem difference_eq_zero : (BitVec.ofInt 8 (a.toNat - m.toNat) == 0) = decide (a = m) := by
  have := a.isLt
  have := m.isLt
  rw [Bool.eq_iff_iff, beq_iff_eq, decide_eq_true_eq, ← BitVec.toNat_inj, ← BitVec.toNat_inj, BitVec.toNat_ofInt]
  change _ = 0 ↔ _
  omega

/-- The sign of the difference is that of the exact signed one, inverted where that does not fit. -/
theorem sign_xor_overflow : (neg8 (BitVec.ofInt 8 (a.toNat - m.toNat)) ^^ outside8 (a.toInt - m.toInt)) =
    decide (a.toInt < m.toInt) := by
  have := a.isLt
  have := m.isLt
  rw [neg8, outside8, BitVec.toNat_ofInt, BitVec.toInt_eq_toNat_cond, BitVec.toInt_eq_toNat_cond, Bool.eq_iff_iff]
  simp only [bne_iff_ne, ne_eq, decide_eq_decide, decide_eq_true_eq]
  split <;> split <;> omega

end Compare

/-- Settles O29: after the compare (O19) C says below, Z says equal and N differs from V where the signed value is
less; every condition is one of these, or two of them, or a negation. -/
theorem compareThenBranch : Obligations.CompareThenBranch := by
  intro m s t u v hv hu
  obtain ⟨-, -, cmpa, -⟩ := subtractAndCompareComplete
  obtain ⟨cc, hexec, flags⟩ := cmpa m s t v trivial hv
  obtain rfl : t.withCC cc = u := Host.Outcome.next.inj (hexec.symm.trans hu)
  have below : flag .c cc = decide (t.a.toNat < v.toNat) := flags .c
  have equal : flag .z cc = decide (t.a = v) := (flags .z).trans (difference_eq_zero t.a v)
  have less : (flag .n cc ^^ flag .v cc) = decide (t.a.toInt < v.toInt) := by
    rw [← sign_xor_overflow, flags .n, flags .v]
    rfl
  have equal_unsigned : flag .z cc = decide (t.a.toNat = v.toNat) :=
    equal.trans (decide_eq_decide.mpr BitVec.toNat_inj.symm)
  have equal_signed : flag .z cc = decide (t.a.toInt = v.toInt) :=
    equal.trans (decide_eq_decide.mpr BitVec.toInt_inj.symm)
  refine ⟨?hi, ?ls, below, ?carryClear, equal, ?ne, ?gt, ?ge, less, ?le⟩ <;>
    simp only [Cond.holds, State.withCC_cc]
  case hi | ls =>
    rw [below, equal_unsigned, Bool.eq_iff_iff]
    simp only [Bool.not_eq_true', Bool.or_eq_true, Bool.or_eq_false_iff, decide_eq_true_eq,
      decide_eq_false_iff_not]
    omega
  case carryClear =>
    rw [below, Bool.eq_iff_iff]
    simp
  case ne => simp [equal]
  case ge =>
    rw [less, Bool.eq_iff_iff]
    simp
  case gt | le =>
    rw [less, equal_signed, Bool.eq_iff_iff]
    simp only [Bool.not_eq_true', Bool.or_eq_true, Bool.or_eq_false_iff, decide_eq_true_eq,
      decide_eq_false_iff_not]
    omega

/-! ## Decimal adjustment -/

/-- DAA's exact sum: A with 6 added to a digit that is above 9 or carried out, the high one also where the low one's
correction will carry into a 9 (R384). -/
def decimalSum (a : Byte) (h c : Bool) : Nat :=
  a.toNat + (if h ∨ 9 < a.toNat % 16 then 6 else 0) +
    (if c ∨ 9 < a.toNat / 16 ∨ (8 < a.toNat / 16 ∧ 9 < a.toNat % 16) then 96 else 0)

theorem lowNibble_toNat (v : Byte) : (lowNibble v).toNat = v.toNat % 16 := by
  simp [lowNibble]

theorem highNibble_toNat (v : Byte) : (highNibble v).toNat = v.toNat / 16 := by
  have := v.isLt
  simp only [highNibble, BitVec.extractLsb'_toNat, Nat.shiftRight_eq_div_pow]
  omega

theorem daaCorrection_toNat (a cc : Byte) :
    (daaCorrection a cc).toNat = (if flag .h cc ∨ 9 < a.toNat % 16 then 6 else 0) +
      (if flag .c cc ∨ 9 < a.toNat / 16 ∨ (8 < a.toNat / 16 ∧ 9 < a.toNat % 16) then 96 else 0) := by
  simp only [daaCorrection, lowNibble_toNat, highNibble_toNat, Bool.or_eq_true, Bool.and_eq_true, decide_eq_true_eq,
    or_assoc]
  split <;> split <;> rfl

/-- What DAA adds to A makes the exact sum. -/
theorem add_daaCorrection (a cc : Byte) :
    a.toNat + (daaCorrection a cc).toNat = decimalSum a (flag .h cc) (flag .c cc) := by
  rw [daaCorrection_toNat, decimalSum, Nat.add_assoc]

theorem daaOp_fst (a cc : Byte) :
    (daaOp a cc).1 = BitVec.ofNat 8 (decimalSum a (flag .h cc) (flag .c cc)) := by
  rw [← add_daaCorrection]
  exact addWide_r (by decide) a _ false

/-- C is set by the carry out and never cleared (R384). -/
theorem flagsAre_daaOp (a cc : Byte) : FlagsAre cc (daaOp a cc).2
    (onlyNZC (neg8 (BitVec.ofNat 8 (decimalSum a (flag .h cc) (flag .c cc))))
      (BitVec.ofNat 8 (decimalSum a (flag .h cc) (flag .c cc)) == 0)
      (flag .c cc || decide (255 < decimalSum a (flag .h cc) (flag .c cc)))) := by
  have carry : (add8 a (daaCorrection a cc) false).c = decide (255 < decimalSum a (flag .h cc) (flag .c cc)) := by
    rw [← add_daaCorrection]
    exact addWide_c (by decide) a _ false
  rw [← daaOp_fst, ← carry]
  exact flagsAre_putNZ_c _ cc _

theorem completesInh_daa : CompletesInh extended .daa
    (fun s => s.set8 .a (BitVec.ofNat 8 (decimalSum s.a (flag .h s.cc) (flag .c s.cc))))
    fun s => onlyNZC (neg8 (BitVec.ofNat 8 (decimalSum s.a (flag .h s.cc) (flag .c s.cc))))
      (BitVec.ofNat 8 (decimalSum s.a (flag .h s.cc) (flag .c s.cc)) == 0)
      (flag .c s.cc || decide (255 < decimalSum s.a (flag .h s.cc) (flag .c s.cc))) :=
  completesInh_of_modifyReg (op := fun _ => daaOp) (fun _ _ hg => performGated_ok hg)
    (fun s => daaOp_fst s.a s.cc) fun s => flagsAre_daaOp s.a s.cc

/-- The number whose two decimal digits a byte holds. -/
def decimalValue (v : Byte) : Nat := 10 * (v.toNat / 16) + v.toNat % 16

/-- `r`, `h` and `c` are the byte, H and C that the binary addition of two-digit decimal numbers leaves, with the
carry `k` in. -/
structure BinarySum (a m r : Byte) (k : Nat) (h c : Bool) : Prop where
  carryIn_le : k ≤ 1
  low_a : a.toNat % 16 < 10
  high_a : a.toNat / 16 < 10
  low_m : m.toNat % 16 < 10
  high_m : m.toNat / 16 < 10
  result : r.toNat = (a.toNat + m.toNat + k) % 256
  half : h = decide (15 < a.toNat % 16 + m.toNat % 16 + k)
  carry : c = decide (255 < a.toNat + m.toNat + k)

namespace BinarySum

variable {a m r : Byte} {k : Nat} {h c : Bool} (b : BinarySum a m r k h c)

include b

/-- The low digit is corrected exactly where the low digits carry in decimal. -/
theorem corrects_low_iff : (h ∨ 9 < r.toNat % 16) ↔ 9 < a.toNat % 16 + m.toNat % 16 + k := by
  obtain ⟨hk, ha0, ha1, hm0, hm1, hr, hh, hc⟩ := b
  rw [hh, decide_eq_true_eq]
  omega

/-- The high digit is corrected exactly where the decimal sum has hundreds. -/
theorem corrects_high_iff : (c ∨ 9 < r.toNat / 16 ∨ (8 < r.toNat / 16 ∧ 9 < r.toNat % 16)) ↔
    99 < decimalValue a + decimalValue m + k := by
  obtain ⟨hk, ha0, ha1, hm0, hm1, hr, hh, hc⟩ := b
  rw [hc, decide_eq_true_eq, decimalValue, decimalValue]
  omega

theorem decimalSum_eq : decimalSum r h c = r.toNat +
    (if 9 < a.toNat % 16 + m.toNat % 16 + k then 6 else 0) +
    (if 99 < decimalValue a + decimalValue m + k then 96 else 0) := by
  simp only [decimalSum, b.corrects_low_iff, b.corrects_high_iff]

/-- C and the carry out of the correction together are the hundreds. -/
theorem hundreds : (c || decide (255 < decimalSum r h c)) = decide (99 < decimalValue a + decimalValue m + k) := by
  rw [b.decimalSum_eq]
  obtain ⟨hk, ha0, ha1, hm0, hm1, hr, hh, hc⟩ := b
  rw [hc, ← Bool.decide_or, decide_eq_decide, decimalValue, decimalValue]
  split_ifs <;> omega

/-- The corrected byte holds the tens and the ones: a digit corrected is the digits' sum less the 10 it carries. -/
theorem exists_tens_ones : ∃ tens ones, tens < 10 ∧ ones < 10 ∧ decimalSum r h c % 256 = 16 * tens + ones ∧
    (if 99 < decimalValue a + decimalValue m + k then 100 else 0) + 10 * tens + ones =
      decimalValue a + decimalValue m + k := by
  refine ⟨a.toNat / 16 + m.toNat / 16 + (if 9 < a.toNat % 16 + m.toNat % 16 + k then 1 else 0) -
      (if 99 < decimalValue a + decimalValue m + k then 10 else 0),
    a.toNat % 16 + m.toNat % 16 + k - (if 9 < a.toNat % 16 + m.toNat % 16 + k then 10 else 0), ?_⟩
  rw [b.decimalSum_eq]
  obtain ⟨hk, ha0, ha1, hm0, hm1, hr, hh, hc⟩ := b
  rw [hr, decimalValue, decimalValue]
  split_ifs <;> omega

end BinarySum

/-- Settles O35: DAA (R384) gets from ADCA (O18) the binary sum and its H and C, and its exact sum is decimal. -/
theorem decimalAddition : Obligations.DecimalAddition := by
  intro s t u m hg ha0 ha1 hm0 hm1 ht hu
  obtain ⟨-, -, adca, -⟩ := addComplete
  obtain ⟨cc, hadca, added⟩ := adca (.imm m) s _ m trivial rfl
  have hst := Host.Outcome.next.inj (ht.symm.trans hadca)
  obtain ⟨cc', hdaa, adjusted⟩ := completesInh_daa t (hst ▸ hg)
  have htu := Host.Outcome.next.inj (hu.symm.trans hdaa)
  have binary : BinarySum s.a m t.a (flag .c s.cc).toNat (flag .h t.cc) (flag .c t.cc) := by
    rw [hst]
    exact ⟨Bool.toNat_le _, ha0, ha1, hm0, hm1, BitVec.toNat_ofNat .., added .h, added .c⟩
  have low_byte : u.a.toNat = decimalSum t.a (flag .h t.cc) (flag .c t.cc) % 256 := by
    rw [htu]
    exact BitVec.toNat_ofNat ..
  have carry_out : flag .c u.cc =
      (flag .c t.cc || decide (255 < decimalSum t.a (flag .h t.cc) (flag .c t.cc))) := by
    rw [htu]
    exact adjusted .c
  obtain ⟨tens, ones, htens, hones, packed, total⟩ := binary.exists_tens_ones
  have low_digit : u.a.toNat % 16 = ones := by omega
  have high_digit : u.a.toNat / 16 = tens := by omega
  have hundreds : 100 * (flag .c u.cc).toNat =
      if 99 < decimalValue s.a + decimalValue m + (flag .c s.cc).toNat then 100 else 0 := by
    rw [carry_out, binary.hundreds]
    split <;> simp [*]
  rw [low_digit, high_digit, hundreds]
  exact ⟨hones, htens, total⟩

end Sys2Proof.Machine

/-!
O22, O25 and O26, shifts, tests and logic (spec/43_shift_logic.md R250 to R272, spec/46_extension.md R371 to R380). The
accumulator shifts apply the operations that O24 applies to memory; the logic of the accumulators writes its flags
as a load does; TST, ORCC and ANDCC write nothing but CC.
-/
namespace Sys2Proof.Machine

/-! ## Instructions that write CC alone -/

/-- An instruction whose meaning is one write of CC completes in every state. -/
theorem exec_eq_next_of_writeCC {i : Instr} {f : State → Byte}
    (hk : ∀ s, exec i s = perform i (modify fun t => t.withCC (f t)) s) (s : State) :
    exec i s = .next ((start i s).withCC (f (start i s))) :=
  (hk s).trans (perform_ok rfl)

/-- Settles O26: the whole meaning of ORCC and of ANDCC is one write of CC. -/
theorem ccLogicComplete : Obligations.CcLogicComplete := by
  intro m s
  refine ⟨rfl, rfl, baseCycles_hardware _, baseCycles_hardware _, ?orcc, ?andcc⟩
  case orcc => exact exec_eq_next_of_writeCC (f := fun t => t.cc ||| m) (fun _ => rfl) s
  case andcc => exact exec_eq_next_of_writeCC (f := fun t => t.cc &&& m) (fun _ => rfl) s

/-! ## Accumulators -/

/-- A test of an accumulator. -/
theorem completesInh_of_test {i : Instr} (r : Reg8)
    (hk : ∀ s, exec i s = perform i (modify fun t => t.withCC (putNZ0 (t.get8 r) t.cc)) s) :
    CompletesInh always i (fun s => s) fun s => onlyNZV (neg8 (s.get8 r)) (s.get8 r == 0) false :=
  fun s _ => ⟨putNZ0 (s.get8 r) s.cc, exec_eq_next_of_writeCC hk s, flagsAre_putNZ0 (s.get8 r) s.cc⟩

/-- Settles O22: each shift is `modifyReg` of the operation that O24 applies to memory, ROL and ROR behind the gate;
TST writes CC alone. -/
theorem accumulatorShiftsComplete : Obligations.AccumulatorShiftsComplete := by
  refine ⟨?asra, ?lsra, ?asla, ?coma, ?tsta, ?rola, ?rora, ?asrb, ?lsrb, ?aslb, ?comb, ?tstb, ?rolb, ?rorb⟩
  case asra | asrb =>
    exact completesInh_of_modifyReg (op := fun _ => asrOp) (fun _ _ _ => perform_ok)
      (fun s => asrOp_fst _ s.cc) fun s => flagsAre_asrOp _ s.cc
  case lsra | lsrb =>
    exact completesInh_of_modifyReg (op := fun _ => lsrOp) (fun _ _ _ => perform_ok)
      (fun s => lsrOp_fst _ s.cc) fun s => flagsAre_lsrOp _ s.cc
  case asla | aslb =>
    exact completesInh_of_modifyReg (op := fun _ => aslOp) (fun _ _ _ => perform_ok)
      (fun s => aslOp_fst _ s.cc) fun s => flagsAre_aslOp _ s.cc
  case coma | comb =>
    exact completesInh_of_modifyReg (op := fun _ => comOp) (fun _ _ _ => perform_ok)
      (fun s => comOp_fst _ s.cc) fun s => flagsAre_comOp _ s.cc
  case tsta => exact completesInh_of_test .a fun _ => rfl
  case tstb => exact completesInh_of_test .b fun _ => rfl
  case rola | rolb =>
    exact completesInh_of_modifyReg (op := fun _ => rolOp) (fun _ _ hg => performGated_ok hg)
      (fun s => rolOp_fst _ s.cc) fun s => flagsAre_rolOp _ s.cc
  case rora | rorb =>
    exact completesInh_of_modifyReg (op := fun _ => rorOp) (fun _ _ hg => performGated_ok hg)
      (fun s => rorOp_fst _ s.cc) fun s => flagsAre_rorOp _ s.cc

/-! ## Logic of an accumulator and a byte -/

section Logic

variable (a m cc : Byte)

theorem flagsAre_orOp : FlagsAre cc (orOp a m cc).2 (onlyNZV (neg8 (a ||| m)) (a ||| m == 0) false) :=
  flagsAre_putNZ0 (a ||| m) cc

theorem flagsAre_andOp : FlagsAre cc (andOp a m cc).2 (onlyNZV (neg8 (a &&& m)) (a &&& m == 0) false) :=
  flagsAre_putNZ0 (a &&& m) cc

theorem flagsAre_eorOp : FlagsAre cc (eorOp a m cc).2 (onlyNZV (neg8 (a ^^^ m)) (a ^^^ m == 0) false) :=
  flagsAre_putNZ0 (a ^^^ m) cc

end Logic

/-- Settles O25: OR, AND and EOR are `alu8` of their operation, EOR behind the gate, and BIT is `test8` of AND's. -/
theorem logicComplete : Obligations.LogicComplete := by
  refine ⟨?ora, ?anda, ?eora, ?bita, ?orb, ?andb, ?eorb, ?bitb⟩
  case ora | orb =>
    exact completes8_of_alu8 (answers_of_perform fun _ _ => rfl) (fun _ _ => rfl)
      fun t v => flagsAre_orOp _ v t.cc
  case anda | andb =>
    exact completes8_of_alu8 (answers_of_perform fun _ _ => rfl) (fun _ _ => rfl)
      fun t v => flagsAre_andOp _ v t.cc
  case eora | eorb =>
    exact completes8_of_alu8 (answers_of_performGated fun _ _ => rfl) (fun _ _ => rfl)
      fun t v => flagsAre_eorOp _ v t.cc
  case bita | bitb =>
    exact completes8_of_test8 (answers_of_perform fun _ _ => rfl) fun t v => flagsAre_andOp _ v t.cc

end Sys2Proof.Machine

/-!
O27 and O28, jumps, calls, RTS, NOP and the branches (spec/44_control.md R300 to R343). A call is a push of a word and
RTS a pull of one, each given here byte by byte for either stack; the thirty-two branches are the one operation
`branch` on a condition and an offset.
-/
namespace Sys2Proof.Machine

/-! ## Words on a stack -/

/-- A push of a byte, where its write answers. -/
theorem push8_ok {p : Stk} {v : Byte} {s t : State}
    (h : write8 (s.get16 (stkReg p) - 1) v (s.set16 (stkReg p) (s.get16 (stkReg p) - 1)) = .ok ⟨⟩ t) :
    push8 p v s = .ok ⟨⟩ t ∧ t.get16 (stkReg p) = s.get16 (stkReg p) - 1 := by
  have pushed : push8 p v s = .ok ⟨⟩ t := (push8_eq p v s).trans h
  obtain ⟨-, moves⟩ := pushes_push8 (p := p) v
  exact ⟨pushed, moves pushed⟩

/-- A push of a word, where its two writes answer: the low byte goes above the high one (R12). -/
theorem push16_ok {p : Stk} {v : Word} {s t u : State}
    (hl : write8 (s.get16 (stkReg p) - 1) (loByte v)
      (s.set16 (stkReg p) (s.get16 (stkReg p) - 1)) = .ok ⟨⟩ t)
    (hh : write8 (s.get16 (stkReg p) - 2) (hiByte v)
      (t.set16 (stkReg p) (s.get16 (stkReg p) - 2)) = .ok ⟨⟩ u) :
    push16 p v s = .ok ⟨⟩ u := by
  obtain ⟨low, moved⟩ := push8_ok hl
  have next : t.get16 (stkReg p) - 1 = s.get16 (stkReg p) - 2 := by rw [moved, BitVec.sub_sub]; rfl
  rw [← next] at hh
  exact (M.bind_ok low).trans (push8_ok hh).1

/-- A bus read leaves the registers. -/
theorem get16_of_read8 {a : Word} {v : Byte} {s t : State} (h : read8 a s = .ok v t) (r : Reg16) :
    t.get16 r = s.get16 r := by
  obtain ⟨w, rfl⟩ := read8_frame h
  cases r <;> rfl

/-- A pull of a byte, where its read answers. -/
theorem pull8_ok {p : Stk} {v : Byte} {s t : State} (h : read8 (s.get16 (stkReg p)) s = .ok v t) :
    pull8 p s = .ok v (t.set16 (stkReg p) (s.get16 (stkReg p) + 1)) := by
  rw [← get16_of_read8 h]
  unfold pull8
  rw [M.bind_ok (M.get_apply s), M.bind_ok h]
  rfl

/-- A pull of a word, where its two reads answer: the high byte lies below the low one (R12). -/
theorem pull16_ok {p : Stk} {h l : Byte} {s t u : State} (hh : read8 (s.get16 (stkReg p)) s = .ok h t)
    (hl : read8 (s.get16 (stkReg p) + 1) (t.set16 (stkReg p) (s.get16 (stkReg p) + 1)) = .ok l u) :
    pull16 p s = .ok (joinBytes h l) (u.set16 (stkReg p) (s.get16 (stkReg p) + 2)) := by
  have low := pull8_ok (p := p) (s := t.set16 (stkReg p) (s.get16 (stkReg p) + 1))
    (by rw [State.get16_set16]; exact hl)
  rw [State.get16_set16, BitVec.add_assoc] at low
  exact (M.bind_ok (pull8_ok hh)).trans (M.bind_ok low)

/-! ## Jumps, calls and returns -/

/-- A call, where its two pushes answer (R301 to R303): they store the address after the instruction. -/
theorem call_ok {target : Word} {s t u : State}
    (hl : write8 (s.sp - 1) (loByte s.pc) (s.set16 .s (s.sp - 1)) = .ok ⟨⟩ t)
    (hh : write8 (s.sp - 2) (hiByte s.pc) (t.set16 .s (s.sp - 2)) = .ok ⟨⟩ u) :
    call target s = .ok ⟨⟩ (u.withPC target) :=
  M.bind_ok (push16_ok (p := .s) hl hh)

/-- JMP, where its address can be computed. -/
theorem exec_jmp_ok (e : Ea) (s t : State) (ea : Word) (hea : effAddr e (start (.jmp e) s) = .ok ea t) :
    exec (.jmp e) s = .next (t.withPC ea) :=
  perform_ok (M.bind_ok hea)

/-- JSR calls the address computed before the push. -/
theorem exec_jsr_ok (e : Ea) (s t u w : State) (ea : Word) (hea : effAddr e (start (.jsr e) s) = .ok ea t)
    (hl : write8 (t.sp - 1) (loByte t.pc) (t.set16 .s (t.sp - 1)) = .ok ⟨⟩ u)
    (hh : write8 (t.sp - 2) (hiByte t.pc) (u.set16 .s (t.sp - 2)) = .ok ⟨⟩ w) :
    exec (.jsr e) s = .next (w.withPC ea) :=
  perform_ok ((M.bind_ok hea).trans (call_ok hl hh))

/-- BSR and LBSR: a call of the address after the instruction plus the offset. -/
theorem exec_of_callRelative {α : Type} {k : α → Instr} {off : α → Word}
    (hk : Performs k fun x => do let t ← get; call (t.pc + off x)) {x : α} {s u w : State}
    (hl : write8 (s.sp - 1) (loByte s.pc) ((start (k x) s).set16 .s (s.sp - 1)) = .ok ⟨⟩ u)
    (hh : write8 (s.sp - 2) (hiByte s.pc) (u.set16 .s (s.sp - 2)) = .ok ⟨⟩ w) :
    exec (k x) s = .next (w.withPC (s.pc + off x)) :=
  hk.exec_eq_next (call_ok (s := start (k x) s) hl hh)

/-- RTS pulls PC from S. -/
theorem exec_rts_ok (s t u : State) (h l : Byte) (hh : read8 s.sp (start .rts s) = .ok h t)
    (hl : read8 (s.sp + 1) (t.set16 .s (s.sp + 1)) = .ok l u) :
    exec .rts s = .next ((u.set16 .s (s.sp + 2)).withPC (joinBytes h l)) :=
  perform_ok (M.bind_ok (pull16_ok (p := .s) (s := start .rts s) hh hl))

/-- Settles O27: a call is a push of PC on S before the jump, and RTS the pull of PC. -/
theorem jumpsAndCallsComplete : Obligations.JumpsAndCallsComplete := by
  refine ⟨exec_jmp_ok, exec_jsr_ok, ?bsr, ?lbsr, exec_rts_ok, ?nop⟩
  case bsr => exact fun _ _ _ _ => exec_of_callRelative (off := sext8) fun _ _ => rfl
  case lbsr => exact fun _ _ _ _ => exec_of_callRelative (off := fun o => o) fun _ _ => rfl
  case nop => exact fun s => perform_ok (M.pure_apply _ _)

/-! ## Branches -/

/-- An instruction whose meaning is a branch completes as one, for any way to say its condition. -/
theorem completesBranch_of_branch {i : Instr} {p : Cond} {off : Word} {taken : Byte → Bool}
    (hk : ∀ s, exec i s = perform i (branch p off) s) (hp : ∀ cc, p.holds cc = taken cc) :
    CompletesBranch i off taken := by
  intro s
  rw [hk, perform_ok (branch_eq p off (start i s)), hp]
  rfl

/-- GE: N and V agree. -/
theorem holds_ge (cc : Byte) : Cond.holds .ge cc = (flag .n cc == flag .v cc) :=
  Bool.not_not _

/-- LT: N and V differ. -/
theorem holds_lt (cc : Byte) : Cond.holds .lt cc = (flag .n cc != flag .v cc) := rfl

/-- GT: not equal, and N and V agree. -/
theorem holds_gt (cc : Byte) : Cond.holds .gt cc = (!flag .z cc && flag .n cc == flag .v cc) := by
  rw [← holds_ge]
  exact Bool.not_or _ _

/-- LE: equal, or N and V differ. -/
theorem holds_le (cc : Byte) : Cond.holds .le cc = (flag .z cc || flag .n cc != flag .v cc) := rfl

/-- Settles O28: each branch is `branch` of its condition; GE, LT, GT and LE compare N with V where the model takes
their exclusive or, the other conditions are the model's own. -/
theorem branchesComplete : Obligations.BranchesComplete := by
  refine ⟨fun off => ⟨?bra, ?brn, ?bhi, ?bls, ?bcc, ?bcs, ?bne, ?beq, ?bvc, ?bvs, ?bpl, ?bmi, ?bge, ?blt, ?bgt, ?ble⟩,
    fun off => ⟨?lbra, ?lbrn, ?lbhi, ?lbls, ?lbcc, ?lbcs, ?lbne, ?lbeq, ?lbvc, ?lbvs, ?lbpl, ?lbmi, ?lbge, ?lblt,
      ?lbgt, ?lble⟩⟩
  case bra | lbra => exact completesBranch_of_branch (p := .always) (fun _ => rfl) fun _ => rfl
  case brn | lbrn => exact completesBranch_of_branch (p := .never) (fun _ => rfl) fun _ => rfl
  case bge | lbge => exact completesBranch_of_branch (fun _ => rfl) holds_ge
  case blt | lblt => exact completesBranch_of_branch (fun _ => rfl) holds_lt
  case bgt | lbgt => exact completesBranch_of_branch (fun _ => rfl) holds_gt
  case ble | lble => exact completesBranch_of_branch (fun _ => rfl) holds_le
  case bhi | bls | bcc | bcs | bne | beq | bvc | bvs | bpl | bmi | lbhi | lbls | lbcc | lbcs | lbne | lbeq | lbvc |
      lbvs | lbpl | lbmi =>
    exact completesBranch_of_branch (fun _ => rfl) fun _ => rfl

end Sys2Proof.Machine

/-!
O32, EXG and TFR (spec/45_stack_transfer.md R350 to R352). What any register reads after a write of another says what
an exchange and a copy do; everything that is no register is carried along as one relation, which the pulls use too.
-/
namespace Sys2Proof.Machine

/-! ## Reading one register after writing another -/

theorem State.get8_set8_eq (s : State) (r q : Reg8) (v : Byte) :
    (s.set8 r v).get8 q = if q = r then v else s.get8 q := by
  split
  · next h => rw [h, State.get8_set8]
  · next h => exact State.get8_set8_ne s v h

/-- Of the 16-bit registers, a write of an 8-bit register can change D alone (R31). -/
theorem State.get16_set8 (s : State) (r : Reg8) (v : Byte) {q : Reg16} (h : q ≠ .d) :
    (s.set8 r v).get16 q = s.get16 q := by
  cases q <;> simp at h ⊢

/-- The registers of 16 bits do not overlap. -/
theorem State.get16_set16_ne (s : State) {r q : Reg16} (v : Word) (h : q ≠ r) :
    (s.set16 r v).get16 q = s.get16 q := by
  cases r <;> cases q <;> first | rfl | exact absurd rfl h

theorem State.get16_set16_eq (s : State) (r q : Reg16) (v : Word) :
    (s.set16 r v).get16 q = if q = r then v else s.get16 q := by
  split
  · next h => rw [h, State.get16_set16]
  · next h => exact State.get16_set16_ne s v h

/-- Of the 8-bit registers, a write of a 16-bit register can change A and B alone, through D (R31). -/
theorem State.get8_set16 (s : State) {r : Reg16} (v : Word) (h : r ≠ .d) (q : Reg8) :
    (s.set16 r v).get8 q = s.get8 q := by
  cases r <;> cases q <;> first | rfl | exact absurd rfl h

/-! ## What is no register -/

/-- Memory, the wait, the cycle count and the devices stand as they did: registers alone may differ. -/
def SameButRegisters (s t : State) : Prop :=
  t.mem = s.mem ∧ t.wait = s.wait ∧ t.cyc = s.cyc ∧ SameDevices s t

theorem sameButRegisters_set8 (s : State) (r : Reg8) (v : Byte) : SameButRegisters s (s.set8 r v) := by
  simp [SameButRegisters, SameDevices]

theorem sameButRegisters_set16 (s : State) (r : Reg16) (v : Word) : SameButRegisters s (s.set16 r v) := by
  simp [SameButRegisters, SameDevices]

theorem SameButRegisters.trans {s t u : State} (h1 : SameButRegisters s t) (h2 : SameButRegisters t u) :
    SameButRegisters s u := by
  obtain ⟨mem1, wait1, cyc1, via1, psg1, pc01, fault1, budget1, buttons1, cfg1⟩ := h1
  obtain ⟨mem2, wait2, cyc2, via2, psg2, pc02, fault2, budget2, buttons2, cfg2⟩ := h2
  exact ⟨mem2.trans mem1, wait2.trans wait1, cyc2.trans cyc1, via2.trans via1, psg2.trans psg1, pc02.trans pc01,
    fault2.trans fault1, budget2.trans budget1, buttons2.trans buttons1, cfg2.trans cfg1⟩

theorem SameButRegisters.mem_eq {s t : State} (h : SameButRegisters s t) : t.mem = s.mem := h.1

theorem SameButRegisters.cfg_eq {s t : State} (h : SameButRegisters s t) : t.cfg = s.cfg := by
  obtain ⟨-, -, -, -, -, -, -, -, -, cfg⟩ := h
  exact cfg

/-! ## Exchange and copy -/

theorem get8_exchange8 (p q r : Reg8) (s : State) :
    (exchange8 p q s).get8 r = if r = p then s.get8 q else if r = q then s.get8 p else s.get8 r := by
  simp only [exchange8, State.get8_set8_eq]
  split_ifs <;> simp_all

theorem get16_exchange16 (p q r : Reg16) (s : State) :
    (exchange16 p q s).get16 r = if r = p then s.get16 q else if r = q then s.get16 p else s.get16 r := by
  simp only [exchange16, State.get16_set16_eq]
  split_ifs <;> simp_all

theorem get16_exchange8 (p q : Reg8) (s : State) {r : Reg16} (h : r ≠ .d) :
    (exchange8 p q s).get16 r = s.get16 r := by
  rw [exchange8, State.get16_set8 _ _ _ h, State.get16_set8 _ _ _ h]

theorem sameButRegisters_exchange8 (p q : Reg8) (s : State) : SameButRegisters s (exchange8 p q s) :=
  (sameButRegisters_set8 s _ _).trans (sameButRegisters_set8 _ _ _)

theorem sameButRegisters_exchange16 (p q : Reg16) (s : State) : SameButRegisters s (exchange16 p q s) :=
  (sameButRegisters_set16 s _ _).trans (sameButRegisters_set16 _ _ _)

/-- The cycle count is no 8-bit register. -/
theorem get8_start (i : Instr) (s : State) (r : Reg8) : (start i s).get8 r = s.get8 r := by
  cases r <;> rfl

/-- The cycle count is no 16-bit register. -/
theorem get16_start (i : Instr) (s : State) (r : Reg16) : (start i s).get16 r = s.get16 r :=
  get16_withCyc s _ r

theorem exec_exg_r8 (p q : Reg8) (s : State) :
    exec (.exg (.r8 p) (.r8 q)) s = .next (exchange8 p q (start (.exg (.r8 p) (.r8 q)) s)) :=
  perform_ok (M.modify_apply _ _)

theorem exec_exg_r16 (p q : Reg16) (s : State) :
    exec (.exg (.r16 p) (.r16 q)) s = .next (exchange16 p q (start (.exg (.r16 p) (.r16 q)) s)) :=
  perform_ok (M.modify_apply _ _)

theorem exec_tfr_r8 (p q : Reg8) (s : State) :
    exec (.tfr (.r8 p) (.r8 q)) s = .next ((start (.tfr (.r8 p) (.r8 q)) s).set8 q (s.get8 p)) := by
  rw [← get8_start (.tfr (.r8 p) (.r8 q)) s p]
  exact perform_ok (M.modify_apply _ _)

theorem exec_tfr_r16 (p q : Reg16) (s : State) :
    exec (.tfr (.r16 p) (.r16 q)) s = .next ((start (.tfr (.r16 p) (.r16 q)) s).set16 q (s.get16 p)) := by
  rw [← get16_start (.tfr (.r16 p) (.r16 q)) s p]
  exact perform_ok (M.modify_apply _ _)

/-- A pair of two widths, which has no meaning as a transfer, faults (R350). -/
theorem transfer_mixed {r1 r2 : XReg} (h : r1.sameWidth r2 = false) (f8 : Reg8 → Reg8 → State → State)
    (f16 : Reg16 → Reg16 → State → State) (s : State) :
    transfer r1 r2 f8 f16 s = .error (.illegalRegisterTransfer (pairByte r1 r2)) s := by
  cases r1 <;> cases r2
  case r8.r8 | r16.r16 => cases h
  case r8.r16 | r16.r8 => rfl

/-- Settles O32: an exchange is two writes and a copy one, of registers that do not overlap. -/
theorem exchangeAndTransferComplete : Obligations.ExchangeAndTransferComplete := by
  refine ⟨fun p q s => ?exg8, fun p q s => ?tfr8, fun p q s => ?exg16, fun p q s => ?tfr16,
    fun r1 r2 s h => ⟨finish_error (transfer_mixed h _ _ _), finish_error (transfer_mixed h _ _ _)⟩⟩
  case exg8 =>
    refine ⟨_, exec_exg_r8 p q s, fun r => ?_, fun r hr => ?_, sameButRegisters_exchange8 p q _⟩
    · simp only [get8_exchange8, get8_start]
    · rw [get16_exchange8 p q _ hr, get16_start]
  case tfr8 =>
    refine ⟨_, exec_tfr_r8 p q s, fun r => ?_, fun r hr => ?_, sameButRegisters_set8 _ q _⟩
    · rw [State.get8_set8_eq, get8_start]
    · rw [State.get16_set8 _ _ _ hr, get16_start]
  case exg16 =>
    refine ⟨_, exec_exg_r16 p q s, fun r => ?_, ?_, ?_, sameButRegisters_exchange16 p q _⟩
    · simp only [get16_exchange16, get16_start]
    · exact (State.set16_cc _ _ _).trans (State.set16_cc _ _ _)
    · exact (State.set16_dp _ _ _).trans (State.set16_dp _ _ _)
  case tfr16 =>
    refine ⟨_, exec_tfr_r16 p q s, fun r => ?_, State.set16_cc _ _ _, State.set16_dp _ _ _,
      sameButRegisters_set16 _ q _⟩
    rw [State.get16_set16_eq, get16_start]

end Sys2Proof.Machine

/-!
O31, PULS and PULU (spec/45_stack_transfer.md R345, R347, R349). Outside the VIA's page each conditional pull is a
function of the state, `pulled8` or `pulled16`; a pull of a list is the eight of them in order, and what each register
holds after it is read off one update at a time.
-/
namespace Sys2Proof.Machine

/-! ## Where the registers of a list stand -/

/-- The bits of a list below bit `k`. -/
theorem getLsbD_listBelow (m : Byte) {k j : Nat} (hj : j < 8) :
    (m &&& BitVec.ofNat 8 (2 ^ k - 1)).getLsbD j = (m.getLsbD j && decide (j < k)) := by
  rw [BitVec.getLsbD_and, BitVec.getLsbD_ofNat, Nat.testBit_two_pow_sub_one]
  simp [hj]

/-- The bytes of a list, from the last register pushed to the first (R345). -/
theorem listBytes_eq (m : Byte) : listBytes m = (m.getLsbD 0).toNat + ((m.getLsbD 1).toNat + ((m.getLsbD 2).toNat +
    ((m.getLsbD 3).toNat + (2 * (m.getLsbD 4).toNat + (2 * (m.getLsbD 5).toNat + (2 * (m.getLsbD 6).toNat +
    2 * (m.getLsbD 7).toNat)))))) := by
  unfold listBytes listCount8 listCount16
  omega

/-- The size of a list, a register at a time. -/
theorem listSize_eq (m : Byte) : listSize m = BitVec.ofNat 16 (m.getLsbD 0).toNat +
    (BitVec.ofNat 16 (m.getLsbD 1).toNat + (BitVec.ofNat 16 (m.getLsbD 2).toNat +
    (BitVec.ofNat 16 (m.getLsbD 3).toNat + (BitVec.ofNat 16 (2 * (m.getLsbD 4).toNat) +
    (BitVec.ofNat 16 (2 * (m.getLsbD 5).toNat) + (BitVec.ofNat 16 (2 * (m.getLsbD 6).toNat) +
    BitVec.ofNat 16 (2 * (m.getLsbD 7).toNat))))))) := by
  rw [listSize, listBytes_eq]
  simp only [BitVec.ofNat_add]

/-- The register of bit `k` stands above the registers selected below it. -/
theorem listOffset_eq (m : Byte) (k : Nat) : listOffset m k = BitVec.ofNat 16 (m.getLsbD 0 && decide (0 < k)).toNat +
    (BitVec.ofNat 16 (m.getLsbD 1 && decide (1 < k)).toNat + (BitVec.ofNat 16 (m.getLsbD 2 && decide (2 < k)).toNat +
    (BitVec.ofNat 16 (m.getLsbD 3 && decide (3 < k)).toNat +
    (BitVec.ofNat 16 (2 * (m.getLsbD 4 && decide (4 < k)).toNat) +
    (BitVec.ofNat 16 (2 * (m.getLsbD 5 && decide (5 < k)).toNat) +
    (BitVec.ofNat 16 (2 * (m.getLsbD 6 && decide (6 < k)).toNat) +
    BitVec.ofNat 16 (2 * (m.getLsbD 7 && decide (7 < k)).toNat))))))) := by
  refine (listSize_eq (m &&& BitVec.ofNat 8 (2 ^ k - 1))).trans ?_
  simp only [getLsbD_listBelow, Nat.reduceLT]

/-- The `n + k` addresses from `a` up are the first `n` and the `k` after those. -/
theorem upFrom_add (a : Word) (n k : Nat) : upFrom a (n + k) = upFrom a n ++ upFrom (a + BitVec.ofNat 16 n) k := by
  induction n generalizing a with
  | zero => simp [upFrom]
  | succ n ih =>
    have next : a + 1 + BitVec.ofNat 16 n = a + BitVec.ofNat 16 (n + 1) := by
      rw [Nat.add_comm, BitVec.ofNat_add, BitVec.add_assoc]
      rfl
    rw [Nat.succ_add, upFrom, ih, next]
    rfl

theorem avoidsVia_append (bus : BusConfig) (as bs : List Word) :
    avoidsVia bus (as ++ bs) = (avoidsVia bus as && avoidsVia bus bs) :=
  List.all_append

/-! ## A conditional pull, outside the VIA's page -/

theorem peek_isSome_of_avoids {s : State} {a : Word} (h : region s.cfg.bus a ≠ .via) : (s.peek a).isSome :=
  Option.ne_none_iff_isSome.mp (mt (peek_eq_none s a).mp h)

/-- The state after an 8-bit register is pulled from the stack `p`, where it is selected. -/
def State.pulled8 (s : State) (p : Stk) (sel : Bool) (r : Reg8) : State :=
  (s.set16 (stkReg p) (s.get16 (stkReg p) + BitVec.ofNat 16 sel.toNat)).set8 r
    (if sel then s.byteAt (s.get16 (stkReg p)) else s.get8 r)

/-- The state after a 16-bit register is pulled from the stack `p`, where it is selected. -/
def State.pulled16 (s : State) (p : Stk) (sel : Bool) (r : Reg16) : State :=
  (s.set16 (stkReg p) (s.get16 (stkReg p) + BitVec.ofNat 16 (2 * sel.toNat))).set16 r
    (if sel then s.wordAt (s.get16 (stkReg p)) else s.get16 r)

/-- Writing back what a register holds changes nothing. -/
theorem State.set8_get8 (s : State) (r : Reg8) : s.set8 r (s.get8 r) = s := by
  cases r <;> rfl

/-- Writing back what a register holds changes nothing, D as the pair A:B. -/
theorem State.set16_get16 (s : State) (r : Reg16) : s.set16 r (s.get16 r) = s := by
  cases r <;> simp [State.set16, State.d, State.get16]

/-- Of two writes of a register the second stands. -/
theorem State.set16_set16 (s : State) (r : Reg16) (v w : Word) : (s.set16 r v).set16 r w = s.set16 r w := by
  cases r <;> rfl

theorem read8_set16 {s : State} {a : Word} (h : (s.peek a).isSome) (r : Reg16) (v : Word) :
    read8 a (s.set16 r v) = .ok (s.byteAt a) (s.set16 r v) := by
  have memory : ((s.set16 r v).peek a).isSome := by rwa [peek_set16]
  rw [read8_of_isSome memory, State.byteAt, peek_set16, ← State.byteAt]

section Pull

variable {p : Stk} {s : State} {sel : Bool}

theorem pullIf8_apply (r : Reg8) (h : avoidsVia s.cfg.bus (upFrom (s.get16 (stkReg p)) sel.toNat) = true) :
    pullIf8 p sel r s = .ok ⟨⟩ (s.pulled8 p sel r) := by
  cases sel with
  | false => simp [pullIf8, State.pulled8, State.set16_get16, State.set8_get8]
  | true =>
    have memory : (s.peek (s.get16 (stkReg p))).isSome := peek_isSome_of_avoids (by simpa [avoidsVia, upFrom] using h)
    exact M.bind_ok (pull8_ok (read8_of_isSome memory))

theorem pullIf16_apply (r : Reg16) (h : avoidsVia s.cfg.bus (upFrom (s.get16 (stkReg p)) (2 * sel.toNat)) = true) :
    pullIf16 p sel r s = .ok ⟨⟩ (s.pulled16 p sel r) := by
  cases sel with
  | false => simp [pullIf16, State.pulled16, State.set16_get16]
  | true =>
    obtain ⟨high, low⟩ : region s.cfg.bus (s.get16 (stkReg p)) ≠ .via ∧
        region s.cfg.bus (s.get16 (stkReg p) + 1) ≠ .via := by simpa [avoidsVia, upFrom] using h
    have readHigh := read8_of_isSome (peek_isSome_of_avoids high)
    have pulled := pull16_ok readHigh (read8_set16 (peek_isSome_of_avoids low) _ _)
    rw [State.set16_set16] at pulled
    exact M.bind_ok pulled

/-! ### What stands after it -/

variable (p s sel)

theorem sameButRegisters_pulled8 (r : Reg8) : SameButRegisters s (s.pulled8 p sel r) :=
  (sameButRegisters_set16 s _ _).trans (sameButRegisters_set8 _ r _)

theorem sameButRegisters_pulled16 (r : Reg16) : SameButRegisters s (s.pulled16 p sel r) :=
  (sameButRegisters_set16 s _ _).trans (sameButRegisters_set16 _ r _)

theorem stkReg_ne_d : stkReg p ≠ .d := by cases p <;> decide

theorem get8_pulled8 (r q : Reg8) : (s.pulled8 p sel r).get8 q =
    if q = r then if sel then s.byteAt (s.get16 (stkReg p)) else s.get8 r else s.get8 q := by
  rw [State.pulled8, State.get8_set8_eq, State.get8_set16 _ _ (stkReg_ne_d p)]

theorem get16_pulled8 (r : Reg8) {q : Reg16} (hq : q ≠ .d) : (s.pulled8 p sel r).get16 q =
    if q = stkReg p then s.get16 (stkReg p) + BitVec.ofNat 16 sel.toNat else s.get16 q := by
  rw [State.pulled8, State.get16_set8 _ _ _ hq, State.get16_set16_eq]

theorem get8_pulled16 {r : Reg16} (hr : r ≠ .d) (q : Reg8) : (s.pulled16 p sel r).get8 q = s.get8 q := by
  rw [State.pulled16, State.get8_set16 _ _ hr, State.get8_set16 _ _ (stkReg_ne_d p)]

theorem get16_pulled16 (r q : Reg16) : (s.pulled16 p sel r).get16 q =
    if q = r then if sel then s.wordAt (s.get16 (stkReg p)) else s.get16 r
    else if q = stkReg p then s.get16 (stkReg p) + BitVec.ofNat 16 (2 * sel.toNat) else s.get16 q := by
  rw [State.pulled16, State.get16_set16_eq, State.get16_set16_eq]

end Pull

theorem SameButRegisters.byteAt_eq {s t : State} (h : SameButRegisters s t) (a : Word) : t.byteAt a = s.byteAt a := by
  rw [State.byteAt, peek_congr h.mem_eq h.cfg_eq, ← State.byteAt]

theorem SameButRegisters.wordAt_eq {s t : State} (h : SameButRegisters s t) (a : Word) : t.wordAt a = s.wordAt a := by
  rw [State.wordAt, h.byteAt_eq, h.byteAt_eq, ← State.wordAt]

/-! ## The pull of a list -/

section PullList

variable {p : Stk} {s : State} {sel : Bool} {n : Nat}

/-- None of the `n` bytes from the stack pointer `p` up lies in the VIA's page. -/
def Pullable (p : Stk) (n : Nat) (s : State) : Prop := avoidsVia s.cfg.bus (upFrom (s.get16 (stkReg p)) n) = true

/-- After `k` of the bytes are pulled the others can be. -/
theorem Pullable.split {k : Nat} {t : State} (h : Pullable p (k + n) s) (hrest : SameButRegisters s t)
    (hmoved : t.get16 (stkReg p) = s.get16 (stkReg p) + BitVec.ofNat 16 k) : Pullable p k s ∧ Pullable p n t := by
  rw [Pullable, upFrom_add, avoidsVia_append, Bool.and_eq_true] at h
  rw [Pullable, Pullable, hmoved, hrest.cfg_eq]
  exact h

theorem Pullable.pull8 (h : Pullable p (sel.toNat + n) s) (r : Reg8) :
    pullIf8 p sel r s = .ok ⟨⟩ (s.pulled8 p sel r) ∧ Pullable p n (s.pulled8 p sel r) := by
  obtain ⟨first, others⟩ := h.split (sameButRegisters_pulled8 p s sel r) (by
    rw [get16_pulled8 _ _ _ _ (stkReg_ne_d p), if_pos rfl])
  exact ⟨pullIf8_apply r first, others⟩

theorem Pullable.pull16 (h : Pullable p (2 * sel.toNat + n) s) {r : Reg16} (hr : stkReg p ≠ r) :
    pullIf16 p sel r s = .ok ⟨⟩ (s.pulled16 p sel r) ∧ Pullable p n (s.pulled16 p sel r) := by
  obtain ⟨first, others⟩ := h.split (sameButRegisters_pulled16 p s sel r) (by
    rw [get16_pulled16, if_neg hr, if_pos rfl])
  exact ⟨pullIf16_apply r first, others⟩

end PullList

/-- The state after a list is pulled from the stack `p`. -/
def State.pulledList (s : State) (p : Stk) (m : Byte) : State :=
  (((((((s.pulled8 p (m.getLsbD 0) .cc).pulled8 p (m.getLsbD 1) .a).pulled8 p (m.getLsbD 2) .b).pulled8 p
    (m.getLsbD 3) .dp).pulled16 p (m.getLsbD 4) .x).pulled16 p (m.getLsbD 5) .y).pulled16 p
    (m.getLsbD 6) (otherStk p)).pulled16 p (m.getLsbD 7) .pc

/-- The stack pointer that is used is no 16-bit register of its lists (R345). -/
theorem stkReg_ne (p : Stk) : stkReg p ≠ .x ∧ stkReg p ≠ .y ∧ stkReg p ≠ otherStk p ∧ stkReg p ≠ .pc := by
  cases p <;> decide

theorem otherStk_ne_d (p : Stk) : otherStk p ≠ .d := by cases p <;> decide

theorem pullList_apply {p : Stk} {m : Byte} {s : State} (h : Pullable p (listBytes m) s) :
    pullList p m s = .ok ⟨⟩ (s.pulledList p m) := by
  obtain ⟨notX, notY, notOther, notPC⟩ := stkReg_ne p
  rw [listBytes_eq] at h
  obtain ⟨cc, h⟩ := h.pull8 .cc
  obtain ⟨a, h⟩ := h.pull8 .a
  obtain ⟨b, h⟩ := h.pull8 .b
  obtain ⟨dp, h⟩ := h.pull8 .dp
  obtain ⟨x, h⟩ := h.pull16 notX
  obtain ⟨y, h⟩ := h.pull16 notY
  obtain ⟨other, h⟩ := h.pull16 notOther
  obtain ⟨pc, -⟩ := Pullable.pull16 (n := 0) h notPC
  unfold pullList
  rw [M.bind_ok cc, M.bind_ok a, M.bind_ok b, M.bind_ok dp, M.bind_ok x, M.bind_ok y, M.bind_ok other, pc]
  rfl

/-! ### What each register holds after it -/

theorem byteAt_pulled8 (s : State) (p : Stk) (sel : Bool) (r : Reg8) (a : Word) :
    (s.pulled8 p sel r).byteAt a = s.byteAt a :=
  (sameButRegisters_pulled8 p s sel r).byteAt_eq a

theorem wordAt_pulled8 (s : State) (p : Stk) (sel : Bool) (r : Reg8) (a : Word) :
    (s.pulled8 p sel r).wordAt a = s.wordAt a :=
  (sameButRegisters_pulled8 p s sel r).wordAt_eq a

theorem wordAt_pulled16 (s : State) (p : Stk) (sel : Bool) (r : Reg16) (a : Word) :
    (s.pulled16 p sel r).wordAt a = s.wordAt a :=
  (sameButRegisters_pulled16 p s sel r).wordAt_eq a

/-- The bit of a list that selects an 8-bit register (R345). -/
def listBit8 : Reg8 → Nat
  | .cc => 0
  | .a => 1
  | .b => 2
  | .dp => 3

/-- The bit of a list that selects a 16-bit register, U and S both by the bit of the other stack pointer; D has none
(R345). -/
def listBit16 : Reg16 → Nat
  | .d => 8
  | .x => 4
  | .y => 5
  | .u => 6
  | .s => 6
  | .pc => 7

section PulledList

variable (p : Stk) (m : Byte) (s : State)

theorem sameButRegisters_pulledList : SameButRegisters s (s.pulledList p m) :=
  (sameButRegisters_pulled8 p s _ _).trans <| (sameButRegisters_pulled8 p _ _ _).trans <|
  (sameButRegisters_pulled8 p _ _ _).trans <| (sameButRegisters_pulled8 p _ _ _).trans <|
  (sameButRegisters_pulled16 p _ _ _).trans <| (sameButRegisters_pulled16 p _ _ _).trans <|
  (sameButRegisters_pulled16 p _ _ _).trans (sameButRegisters_pulled16 p _ _ _)

theorem get16_stkReg_pulledList : (s.pulledList p m).get16 (stkReg p) = s.get16 (stkReg p) + listSize m := by
  obtain ⟨notX, notY, notOther, notPC⟩ := stkReg_ne p
  simp only [State.pulledList, get16_pulled16, get16_pulled8 _ _ _ _ (stkReg_ne_d p), if_neg notX, if_neg notY,
    if_neg notOther, if_neg notPC, if_true, listSize_eq, BitVec.add_assoc]

theorem get8_pulledList (q : Reg8) : (s.pulledList p m).get8 q =
    if m.getLsbD (listBit8 q) then s.byteAt (s.get16 (stkReg p) + listOffset m (listBit8 q)) else s.get8 q := by
  have notD := otherStk_ne_d p
  cases q with
  | cc | a | b | dp =>
    simp [State.pulledList, get8_pulled16 _ _ _ notD, get8_pulled16, get8_pulled8,
      get16_pulled8 _ _ _ _ (stkReg_ne_d p), byteAt_pulled8, listBit8, listOffset_eq, BitVec.add_assoc,
      -State.get8_cc, -State.get8_a, -State.get8_b, -State.get8_dp]

theorem get16_pulledList {q : Reg16} (hq : q ∈ [.x, .y, otherStk p, .pc]) : (s.pulledList p m).get16 q =
    if m.getLsbD (listBit16 q) then s.wordAt (s.get16 (stkReg p) + listOffset m (listBit16 q)) else s.get16 q := by
  cases p with
  | s | u =>
    simp only [otherStk, List.mem_cons, List.not_mem_nil, or_false] at hq
    obtain rfl | rfl | rfl | rfl := hq
    all_goals
      simp [State.pulledList, get16_pulled16, get16_pulled8, wordAt_pulled8, wordAt_pulled16, stkReg, otherStk,
        listBit16, listOffset_eq, BitVec.add_assoc, -State.get16_x, -State.get16_y, -State.get16_u, -State.get16_s,
        -State.get16_pc]

end PulledList

/-! ## PULS and PULU -/

theorem get8_withCyc (s : State) (n : Nat) (r : Reg8) : (s.withCyc n).get8 r = s.get8 r := by
  cases r <;> rfl

theorem byteAt_start (i : Instr) (s : State) (a : Word) : (start i s).byteAt a = s.byteAt a := rfl

theorem wordAt_start (i : Instr) (s : State) (a : Word) : (start i s).wordAt a = s.wordAt a := rfl

/-- A change of registers alone from the state a body starts in, and the cycles counted then. -/
theorem SameButRegisters.of_start {i : Instr} {s t : State} (h : SameButRegisters (start i s) t) (n : Nat) :
    (t.withCyc (t.cyc + n)).cyc = baseCycles s.cfg i + n ∧ (t.withCyc (t.cyc + n)).mem = s.mem ∧
      (t.withCyc (t.cyc + n)).wait = s.wait ∧ SameDevices s (t.withCyc (t.cyc + n)) := by
  obtain ⟨mem, wait, cyc, devices⟩ := h
  exact ⟨congrArg (· + n) cyc, mem, wait, devices⟩

section Pulls

variable {p : Stk} {k : Byte → Instr} (hk : Performs k (pullRegs p)) {m : Byte} {s : State}
include hk

/-- A pull completes wherever the pull of its list does, in the VIA's page too. -/
theorem exec_pull_ok {t : State} (h : pullList p m (start (k m) s) = .ok ⟨⟩ t) :
    exec (k m) s = .next (t.withCyc (t.cyc + listCycles t.cfg.pushPullCycles m)) :=
  hk.exec_eq_next (M.bind_ok h)

/-- Outside the VIA's page a pull always completes, each register it selects with the bytes at its place. -/
theorem exec_pull_avoids (h : avoidsVia s.cfg.bus (upFrom (s.get16 (stkReg p)) (listBytes m)) = true) :
    ∃ t, exec (k m) s = .next t ∧ t.get16 (stkReg p) = s.get16 (stkReg p) + listSize m ∧
      (∀ q, t.get8 q =
        if m.getLsbD (listBit8 q) then s.byteAt (s.get16 (stkReg p) + listOffset m (listBit8 q)) else s.get8 q) ∧
      (∀ q ∈ [.x, .y, otherStk p, .pc], t.get16 q =
        if m.getLsbD (listBit16 q) then s.wordAt (s.get16 (stkReg p) + listOffset m (listBit16 q)) else s.get16 q) ∧
      t.cyc = baseCycles s.cfg (k m) + listCycles s.cfg.pushPullCycles m ∧ t.mem = s.mem ∧ t.wait = s.wait ∧
      SameDevices s t := by
  have pullable : Pullable p (listBytes m) (start (k m) s) := by rw [Pullable, get16_start]; exact h
  have same := sameButRegisters_pulledList p m (start (k m) s)
  have rest := same.of_start (listCycles s.cfg.pushPullCycles m)
  have answer := exec_pull_ok hk (pullList_apply pullable)
  rw [same.cfg_eq] at answer
  refine ⟨_, answer, ?_, fun q => ?_, fun q hq => ?_, rest⟩
  · rw [get16_withCyc, get16_stkReg_pulledList, get16_start]
  · rw [get8_withCyc, get8_pulledList, get16_start, get8_start, byteAt_start]
  · rw [get16_withCyc, get16_pulledList p m _ hq, get16_start, get16_start, wordAt_start]

end Pulls

/-- Settles O31: both pulls are the one pull of a list, from S and from U. -/
theorem pullsComplete : Obligations.PullsComplete := by
  refine ⟨fun m s h => ?puls, fun m s h => ?pulu, fun _ _ _ => exec_pull_ok fun _ _ => rfl,
    fun _ _ _ => exec_pull_ok fun _ _ => rfl⟩
  case puls =>
    obtain ⟨t, answer, sp, bytes, words, rest⟩ := exec_pull_avoids (p := .s) (k := .puls) (fun _ _ => rfl) h
    exact ⟨t, answer, sp, bytes .cc, bytes .a, bytes .b, bytes .dp, words .x (by decide), words .y (by decide),
      words .u (by decide), words .pc (by decide), rest⟩
  case pulu =>
    obtain ⟨t, answer, sp, bytes, words, rest⟩ := exec_pull_avoids (p := .u) (k := .pulu) (fun _ _ => rfl) h
    exact ⟨t, answer, sp, bytes .cc, bytes .a, bytes .b, bytes .dp, words .x (by decide), words .y (by decide),
      words .s (by decide), words .pc (by decide), rest⟩

end Sys2Proof.Machine

/-!
O30, PSHS and PSHU (spec/45_stack_transfer.md R345, R346, R348). A push of a list is the push of one string of bytes,
its image, since no push changes a register of the list; the image then stands in memory by induction on the string.
-/
namespace Sys2Proof.Machine

/-! ## Bytes below a stack pointer -/

/-- Two storable addresses fewer than 1024 apart have two cells, across the seam of the two copies of RAM too. -/
theorem cellKey_ne_of_near {bus : BusConfig} {a b : Word} (ha : storable bus a = true) (hb : storable bus b = true)
    (hne : a ≠ b) (hnear : (b - a).toNat < 0x400) : cellKey bus b ≠ cellKey bus a := by
  rw [BitVec.toNat_sub] at hnear
  rw [Ne, ← BitVec.toNat_inj] at hne
  cases bus with
  | flatTest => exact fun e => hne e.symm
  | vectrex =>
    rw [storable_vectrex_iff] at ha hb
    rw [cellKey_of_ram ((region_vectrex_eq_ram_iff a).mpr ha), cellKey_of_ram ((region_vectrex_eq_ram_iff b).mpr hb)]
    omega

theorem sub_ofNat_succ (sp : Word) (n : Nat) : sp - BitVec.ofNat 16 n - 1 = sp - BitVec.ofNat 16 (n + 1) := by
  rw [BitVec.ofNat_add, ← BitVec.sub_sub]
  rfl

theorem below_succ (sp : Word) (n : Nat) : below sp (n + 1) = below sp n ++ [sp - BitVec.ofNat 16 (n + 1)] := by
  rw [below_add, BitVec.ofNat_add, ← BitVec.sub_sub]
  rfl

theorem mem_below {a sp : Word} {n : Nat} : a ∈ below sp n ↔ ∃ i < n, a = sp - BitVec.ofNat 16 (i + 1) := by
  induction n with
  | zero => simp [below]
  | succ n ih => rw [below_succ, List.mem_append, List.mem_singleton, ih, Nat.exists_lt_succ_right]

theorem upFrom_sub_subset (sp : Word) {n : Nat} : ∀ b ∈ upFrom (sp - BitVec.ofNat 16 n) n, b ∈ below sp n := by
  induction n with
  | zero => simp [upFrom]
  | succ n ih =>
    rw [upFrom, ← sub_ofNat_succ, BitVec.sub_add_cancel, sub_ofNat_succ, below_succ]
    intro b hb
    obtain rfl | hb := List.mem_cons.mp hb
    · exact List.mem_append_right _ (List.mem_singleton_self _)
    · exact List.mem_append_left _ (ih b hb)

/-- Below a stack pointer the next storable address down has a cell of its own. -/
theorem cellKey_ne_next {bus : BusConfig} {sp b : Word} {n : Nat} (hn : n < 0x400)
    (h : (below sp (n + 1)).all (storable bus) = true) (hb : b ∈ below sp n) :
    cellKey bus b ≠ cellKey bus (sp - BitVec.ofNat 16 (n + 1)) := by
  rw [below_succ, List.all_append, Bool.and_eq_true, List.all_eq_true] at h
  obtain ⟨above, next⟩ := h
  obtain ⟨i, hi, rfl⟩ := mem_below.mp hb
  have apart : (sp - BitVec.ofNat 16 (i + 1) - (sp - BitVec.ofNat 16 (n + 1))).toNat = n - i := by
    simp only [BitVec.toNat_sub, BitVec.toNat_ofNat]
    omega
  refine cellKey_ne_of_near (by simpa using next) (above _ hb) (fun e => ?_) (by omega)
  rw [e, BitVec.sub_self, BitVec.toNat_zero] at apart
  omega

/-! ## Bytes that stand in memory -/

theorem holdsBytes_append (s : State) (a : Word) (xs ys : List Byte) :
    HoldsBytes s a (xs ++ ys) ↔ HoldsBytes s a xs ∧ HoldsBytes s (a + BitVec.ofNat 16 xs.length) ys := by
  induction xs generalizing a with
  | nil => simp [HoldsBytes]
  | cons x xs ih =>
    have next : a + 1 + BitVec.ofNat 16 xs.length = a + BitVec.ofNat 16 (xs.length + 1) := by
      rw [Nat.add_comm, BitVec.ofNat_add, BitVec.add_assoc]
      rfl
    rw [List.cons_append, HoldsBytes, HoldsBytes, ih, next, and_assoc]
    rfl

/-- Bytes stand as long as nothing is stored in their cells. -/
theorem HoldsBytes.of_sameBytesOutside {as : List Word} {s t : State} {a : Word} {bs : List Byte}
    (h : HoldsBytes s a bs) (hst : SameBytesOutside as s t)
    (hcell : ∀ b ∈ upFrom a bs.length, ∀ c ∈ as, cellKey s.cfg.bus b ≠ cellKey s.cfg.bus c) :
    HoldsBytes t a bs := by
  induction bs generalizing a with
  | nil => trivial
  | cons v vs ih =>
    obtain ⟨first, others⟩ := h
    rw [List.length_cons, upFrom, List.forall_mem_cons] at hcell
    obtain ⟨cellFirst, cellOthers⟩ := hcell
    exact ⟨(hst a cellFirst).trans first, ih others cellOthers⟩

/-! ## The push of a string of bytes -/

/-- Pushes bytes so that they stand in their order from the new stack pointer up: the last one is pushed first. -/
def pushAll (p : Stk) : List Byte → M Unit
  | [] => pure ⟨⟩
  | v :: vs => do
    pushAll p vs
    push8 p v

theorem pushAll_append (p : Stk) (xs ys : List Byte) :
    pushAll p (xs ++ ys) = (do pushAll p ys; pushAll p xs) := by
  induction xs with
  | nil => exact (bind_pure_unit).symm
  | cons x xs ih => rw [List.cons_append, pushAll, ih, pushAll, bind_assoc]

theorem get16_withMem (s : State) (mem : Memory) (r : Reg16) : (s.withMem mem).get16 r = s.get16 r := by
  cases r <;> rfl

theorem State.set16_withMem (s : State) (mem : Memory) (r : Reg16) (v : Word) :
    (s.withMem mem).set16 r v = (s.set16 r v).withMem mem := by
  cases r <;> rfl

/-- Outside the VIA's page a push of a byte stores it where it is storable. -/
theorem push8_avoids {p : Stk} {v : Byte} {s : State} {a : Word} (ha : s.get16 (stkReg p) - 1 = a)
    (h : region s.cfg.bus a ≠ .via) : push8 p v s = .ok ⟨⟩ ((s.set16 (stkReg p) a).withMem
      (if storable s.cfg.bus a then s.mem.put (cellKey s.cfg.bus a) v else s.mem)) := by
  rw [push8_eq, ha, write8_avoids (by rwa [State.set16_cfg]), State.set16_cfg, State.set16_mem]

theorem storable_next {bus : BusConfig} {sp : Word} {n : Nat} (h : (below sp (n + 1)).all (storable bus) = true) :
    (below sp n).all (storable bus) = true ∧ storable bus (sp - BitVec.ofNat 16 (n + 1)) = true := by
  simpa only [below_succ, List.all_append, List.all_cons, List.all_nil, Bool.and_true, Bool.and_eq_true] using h

/-- A byte stored below the ones that stand stands with them. -/
theorem holdsBytes_put_next {s : State} {sp : Word} {v : Byte} {vs : List Byte} (hm : s.mem.wf = true)
    (hlen : vs.length < 0x400) (hs : (below sp (vs.length + 1)).all (storable s.cfg.bus) = true)
    (h : HoldsBytes s (sp - BitVec.ofNat 16 vs.length) vs) :
    HoldsBytes (s.withMem (s.mem.put (cellKey s.cfg.bus (sp - BitVec.ofNat 16 (vs.length + 1))) v))
      (sp - BitVec.ofNat 16 (vs.length + 1)) (v :: vs) := by
  obtain ⟨-, next⟩ := storable_next hs
  have outside : SameBytesOutside [sp - BitVec.ofNat 16 (vs.length + 1)] s _ :=
    (storesTo_write8 _ _ (write8_of_storable next v)).2
  refine ⟨peek_put_same s _ v hm next, ?_⟩
  rw [← sub_ofNat_succ, BitVec.sub_add_cancel, sub_ofNat_succ]
  refine h.of_sameBytesOutside outside fun b hb => List.forall_mem_singleton.mpr ?_
  exact cellKey_ne_next hlen hs (upFrom_sub_subset sp b hb)

/-- Outside the VIA's page a push of bytes moves the stack pointer and stores; where each of them can be stored they
stand in memory afterwards. -/
theorem pushAll_avoids {p : Stk} {s : State} {bs : List Byte} (hlen : bs.length ≤ 0x400)
    (h : avoidsVia s.cfg.bus (below (s.get16 (stkReg p)) bs.length) = true) :
    ∃ mem, pushAll p bs s =
        .ok ⟨⟩ ((s.set16 (stkReg p) (s.get16 (stkReg p) - BitVec.ofNat 16 bs.length)).withMem mem) ∧
      (s.mem.wf = true → (below (s.get16 (stkReg p)) bs.length).all (storable s.cfg.bus) = true →
        mem.wf = true ∧ HoldsBytes (s.withMem mem) (s.get16 (stkReg p) - BitVec.ofNat 16 bs.length) bs) := by
  induction bs with
  | nil =>
    refine ⟨s.mem, ?_, fun hm _ => ⟨hm, trivial⟩⟩
    rw [List.length_nil, BitVec.sub_zero, State.set16_get16]
    rfl
  | cons v vs ih =>
    rw [List.length_cons] at hlen h ⊢
    rw [below_succ, avoidsVia_append, Bool.and_eq_true] at h
    obtain ⟨above, next⟩ := h
    obtain ⟨mem, pushed, stands⟩ := ih (by omega) above
    have lowest : region s.cfg.bus (s.get16 (stkReg p) - BitVec.ofNat 16 (vs.length + 1)) ≠ .via := by
      simpa [avoidsVia] using next
    refine ⟨if storable s.cfg.bus (s.get16 (stkReg p) - BitVec.ofNat 16 (vs.length + 1)) then
        mem.put (cellKey s.cfg.bus (s.get16 (stkReg p) - BitVec.ofNat 16 (vs.length + 1))) v
      else mem, ?_, fun hm hs => ?_⟩
    · rw [pushAll, M.bind_ok pushed, push8_avoids _ (by rwa [State.withMem_cfg, State.set16_cfg]),
        State.set16_withMem, State.set16_set16, State.withMem_cfg, State.set16_cfg]
      · rfl
      · rw [get16_withMem, State.get16_set16, sub_ofNat_succ]
    · obtain ⟨others, last⟩ := storable_next hs
      obtain ⟨canonical, held⟩ := stands hm others
      rw [if_pos last]
      exact ⟨Memory.wf_put _ canonical _ v, holdsBytes_put_next (s := s.withMem mem) canonical hlen hs held⟩

/-! ## The image of a list -/

/-- The byte of an 8-bit register, where it is selected. -/
def imageOf8 (sel : Bool) (v : Byte) : List Byte := if sel then [v] else []

/-- The bytes of a 16-bit register, where it is selected: the high one first. -/
def imageOf16 (sel : Bool) (v : Word) : List Byte := if sel then [hiByte v, loByte v] else []

/-- The bytes of a list as they stand from the new stack pointer up (R345). -/
def listImage (p : Stk) (m : Byte) (s : State) : List Byte :=
  imageOf8 (m.getLsbD 0) s.cc ++ (imageOf8 (m.getLsbD 1) s.a ++ (imageOf8 (m.getLsbD 2) s.b ++
    (imageOf8 (m.getLsbD 3) s.dp ++ (imageOf16 (m.getLsbD 4) s.x ++ (imageOf16 (m.getLsbD 5) s.y ++
    (imageOf16 (m.getLsbD 6) (s.get16 (otherStk p)) ++ imageOf16 (m.getLsbD 7) s.pc))))))

theorem length_imageOf8 (sel : Bool) (v : Byte) : (imageOf8 sel v).length = sel.toNat := by
  cases sel <;> rfl

theorem length_imageOf16 (sel : Bool) (v : Word) : (imageOf16 sel v).length = 2 * sel.toNat := by
  cases sel <;> rfl

theorem length_listImage (p : Stk) (m : Byte) (s : State) : (listImage p m s).length = listBytes m := by
  simp only [listImage, List.length_append, length_imageOf8, length_imageOf16, listBytes_eq]

theorem peek_of_holds_imageOf8 {t : State} {a : Word} {sel : Bool} {v : Byte} (h : HoldsBytes t a (imageOf8 sel v))
    (hsel : sel = true) : t.peek a = some v := by
  subst hsel
  obtain ⟨first, -⟩ := h
  exact first

theorem wordAt_of_holds_imageOf16 {t : State} {a : Word} {sel : Bool} {v : Word}
    (h : HoldsBytes t a (imageOf16 sel v)) (hsel : sel = true) : t.wordAt a = v := by
  subst hsel
  obtain ⟨high, low, -⟩ := h
  rw [State.wordAt, State.byteAt, State.byteAt, high, low]
  exact joinBytes_hi_lo v

/-- Where the image of a list stands, each register of the list stands in its place. -/
theorem listStands_of_holdsBytes {p : Stk} {m : Byte} {sp : Word} {s t : State}
    (h : HoldsBytes t sp (listImage p m s)) : ListStands p m sp s t := by
  simp only [listImage, holdsBytes_append, length_imageOf8, length_imageOf16] at h
  obtain ⟨cc, a, b, dp, x, y, other, pc⟩ := h
  refine ⟨peek_of_holds_imageOf8 ?_, peek_of_holds_imageOf8 ?_, peek_of_holds_imageOf8 ?_, peek_of_holds_imageOf8 ?_,
    wordAt_of_holds_imageOf16 ?_, wordAt_of_holds_imageOf16 ?_, wordAt_of_holds_imageOf16 ?_,
    wordAt_of_holds_imageOf16 ?_⟩
  all_goals simp [listOffset_eq, ← BitVec.add_assoc, -BitVec.getLsbD_eq_getElem]; assumption

/-! ## The push of a list is the push of its image -/

/-- Only the stack pointer `p` may differ among the registers. -/
def SameButStack (p : Stk) (s t : State) : Prop :=
  (∀ r, t.get8 r = s.get8 r) ∧ ∀ r, r ≠ stkReg p → t.get16 r = s.get16 r

theorem SameButStack.refl (p : Stk) (s : State) : SameButStack p s s := ⟨fun _ => rfl, fun _ _ => rfl⟩

theorem keeps_sameButStack_write8 (p : Stk) (s : State) (a : Word) (v : Byte) :
    Keeps (SameButStack p s) (write8 a v) := by
  intro t ht
  cases e : write8 a v t with
  | ok _ u =>
    obtain ⟨bytes, words⟩ := ht
    obtain ⟨mem, rfl⟩ | ⟨-, via, psg, rfl⟩ := write8_frame e <;>
      exact ⟨fun r => by rw [← bytes r]; cases r <;> rfl, fun r hr => by rw [← words r hr]; cases r <;> rfl⟩
  | error k u => rw [write8_error e]; exact ht

theorem keeps_sameButStack_push8 (p : Stk) (s : State) (v : Byte) : Keeps (SameButStack p s) (push8 p v) :=
  keeps_bind (keeps_modify fun _ ⟨bytes, words⟩ =>
    ⟨fun r => (State.get8_set16 _ _ (stkReg_ne_d p) r).trans (bytes r),
      fun r hr => (State.get16_set16_ne _ _ hr).trans (words r hr)⟩) fun _ =>
    keeps_bind keeps_get fun _ => keeps_sameButStack_write8 p s _ v

theorem keeps_sameButStack_pushAll (p : Stk) (s : State) (bs : List Byte) :
    Keeps (SameButStack p s) (pushAll p bs) := by
  induction bs with
  | nil => exact keeps_pure _
  | cons v vs ih => exact keeps_bind ih fun _ => keeps_sameButStack_push8 p s v

section PushList

variable {p : Stk} {s t : State} (h : SameButStack p s t) (sel : Bool)
include h

/-- An 8-bit register of a list is pushed with the value it had at the start. -/
theorem SameButStack.pushIf8_eq (r : Reg8) : pushIf8 p sel r t = pushAll p (imageOf8 sel (s.get8 r)) t := by
  cases sel with
  | false => rfl
  | true =>
    obtain ⟨bytes, -⟩ := h
    rw [← bytes r]
    rfl

theorem SameButStack.pushIf16_eq {r : Reg16} (hr : stkReg p ≠ r) :
    pushIf16 p sel r t = pushAll p (imageOf16 sel (s.get16 r)) t := by
  cases sel with
  | false => rfl
  | true =>
    obtain ⟨-, words⟩ := h
    rw [← words r hr.symm]
    rfl

/-- What is done first may be replaced by a push of bytes, and what follows where such a push leaves the registers. -/
theorem SameButStack.bind_eq {bs : List Byte} {q : M Unit} {f g : Unit → M Unit} (hq : q t = pushAll p bs t)
    (hf : ∀ a u, SameButStack p s u → f a u = g a u) : (q >>= f) t = (pushAll p bs >>= g) t := by
  rw [M.bind_apply, M.bind_apply, hq]
  cases e : pushAll p bs t with
  | ok a u => exact hf a u ((keeps_sameButStack_pushAll p s bs).ok h e)
  | error k u => rfl

end PushList

/-- No push of a list's register changes another one, so all of them can be read at the start. -/
theorem pushList_eq_pushAll (p : Stk) (m : Byte) (s : State) : pushList p m s = pushAll p (listImage p m s) s := by
  obtain ⟨notX, notY, notOther, notPC⟩ := stkReg_ne p
  have same := SameButStack.refl p s
  simp only [listImage, pushAll_append, bind_assoc]
  exact
    same.bind_eq (same.pushIf16_eq _ notPC) fun _ _ h => h.bind_eq (h.pushIf16_eq _ notOther) fun _ _ h =>
    h.bind_eq (h.pushIf16_eq _ notY) fun _ _ h => h.bind_eq (h.pushIf16_eq _ notX) fun _ _ h =>
    h.bind_eq (h.pushIf8_eq _ .dp) fun _ _ h => h.bind_eq (h.pushIf8_eq _ .b) fun _ _ h =>
    h.bind_eq (h.pushIf8_eq _ .a) fun _ _ h => h.pushIf8_eq _ .cc

/-! ## PSHS and PSHU -/

/-- A list has at most the 12 bytes of the whole register set. -/
theorem listBytes_le (m : Byte) : listBytes m ≤ 12 := by
  have le (k : Nat) : (m.getLsbD k).toNat ≤ 1 := Bool.toNat_le _
  have := le 0; have := le 1; have := le 2; have := le 3
  have := le 4; have := le 5; have := le 6; have := le 7
  rw [listBytes_eq]
  omega

theorem listImage_start (p : Stk) (m : Byte) (i : Instr) (s : State) : listImage p m (start i s) = listImage p m s := by
  simp only [listImage, get16_start]
  rfl

section Pushes

variable {p : Stk} {k : Byte → Instr} (hk : Performs k (pushRegs p)) {m : Byte} {s : State}
include hk

/-- A push completes wherever the push of its list does, in the VIA's page too. -/
theorem exec_push_ok {t : State} (h : pushList p m (start (k m) s) = .ok ⟨⟩ t) :
    exec (k m) s = .next (t.withCyc (t.cyc + listCycles t.cfg.pushPullCycles m)) :=
  hk.exec_eq_next (M.bind_ok h)

/-- Outside the VIA's page a push always completes, and where its bytes can be stored each register it selects stands
in its place. -/
theorem exec_push_avoids (h : avoidsVia s.cfg.bus (below (s.get16 (stkReg p)) (listBytes m)) = true) :
    ∃ mem, exec (k m) s = .next ((((start (k m) s).set16 (stkReg p) (s.get16 (stkReg p) - listSize m)).withMem
        mem).withCyc (baseCycles s.cfg (k m) + listCycles s.cfg.pushPullCycles m)) ∧
      SameBytesOutside (below (s.get16 (stkReg p)) (listBytes m)) s (s.withMem mem) ∧
      (s.mem.wf = true → (below (s.get16 (stkReg p)) (listBytes m)).all (storable s.cfg.bus) = true →
        ListStands p m (s.get16 (stkReg p) - listSize m) s (s.withMem mem)) := by
  have length := length_listImage p m s
  obtain ⟨mem, pushed, stands⟩ := pushAll_avoids (p := p) (s := start (k m) s) (bs := listImage p m s)
    (by rw [length]; exact (listBytes_le m).trans (by decide)) (by rw [length, get16_start]; exact h)
  rw [← listImage_start p m (k m), ← pushList_eq_pushAll, listImage_start, length, get16_start] at pushed
  rw [length, get16_start] at stands
  have answer := exec_push_ok hk pushed
  simp only [State.withMem_cyc, State.withMem_cfg, State.set16_cyc, State.set16_cfg] at answer
  refine ⟨mem, answer, ?_, fun hm hs => ?_⟩
  · obtain ⟨-, outside⟩ := (pushes_pushList m).storesTo pushed
    simp only [SameBytesOutside, get16_start, ← State.set16_withMem, peek_set16] at outside
    exact outside
  · obtain ⟨-, held⟩ := stands hm hs
    exact listStands_of_holdsBytes (held.of_sameBytesOutside (.of_mem_eq rfl rfl []) (by simp))

end Pushes

/-- Settles O30: both pushes are the one push of a list, to S and to U. -/
theorem pushesComplete : Obligations.PushesComplete :=
  ⟨fun _ _ => exec_push_avoids (p := .s) fun _ _ => rfl, fun _ _ => exec_push_avoids (p := .u) fun _ _ => rfl,
    fun _ _ _ => exec_push_ok fun _ _ => rfl, fun _ _ _ => exec_push_ok fun _ _ => rfl⟩

end Sys2Proof.Machine

/-!
O33 and O34, MUL, ABX, SEX and DAA (spec/46_extension.md R370, R381 to R384). Each is one update of the state behind the
gate of the extension set; what is to show is that the update is the exact arithmetic of the statement.
-/
namespace Sys2Proof.Machine

/-! ## The product (R381) -/

/-- The product of two bytes fits a word. -/
theorem mul_toNat_lt (a b : Byte) : a.toNat * b.toNat < 2 ^ 16 :=
  calc a.toNat * b.toNat < 2 ^ 8 * 2 ^ 8 := Nat.mul_lt_mul'' a.isLt b.isLt
    _ = 2 ^ 16 := rfl

theorem zext8_toNat (v : Byte) : (zext8 v).toNat = v.toNat :=
  BitVec.toNat_setWidth_of_le (by decide)

theorem mulProduct_toNat (a b : Byte) : (mulProduct a b).toNat = a.toNat * b.toNat := by
  rw [mulProduct, BitVec.toNat_mul, zext8_toNat, zext8_toNat, Nat.mod_eq_of_lt (mul_toNat_lt a b)]

theorem mulProduct_eq_ofNat (a b : Byte) : mulProduct a b = BitVec.ofNat 16 (a.toNat * b.toNat) := by
  rw [← mulProduct_toNat, BitVec.ofNat_toNat, BitVec.setWidth_eq]

theorem flagsAre_mulCC (a b cc : Byte) : FlagsAre cc (mulCC (mulProduct a b) cc)
    (onlyZC (decide (a.toNat * b.toNat = 0)) (decide (a.toNat * b.toNat / 128 % 2 = 1))) := by
  have zero : (mulProduct a b == 0) = decide (a.toNat * b.toNat = 0) := by
    rw [Bool.eq_iff_iff, beq_iff_eq, decide_eq_true_eq, ← mulProduct_toNat, ← BitVec.toNat_inj]
    rfl
  have bit7 : (mulProduct a b).getLsbD 7 = decide (a.toNat * b.toNat / 128 % 2 = 1) := by
    rw [getLsbD_eq_decide, mulProduct_toNat]
    rfl
  intro g
  rw [mulCC, zero, bit7]
  cases g <;> simp [onlyZC]

theorem completesInh_mul : CompletesInh extended .mul
    (fun s => s.set16 .d (BitVec.ofNat 16 (s.a.toNat * s.b.toNat)))
    fun s => onlyZC (decide (s.a.toNat * s.b.toNat = 0)) (decide (s.a.toNat * s.b.toNat / 128 % 2 = 1)) := by
  intro s hg
  refine ⟨mulCC (mulProduct s.a s.b) s.cc, ?_, flagsAre_mulCC s.a s.b s.cc⟩
  simp only [← mulProduct_eq_ofNat]
  exact performGated_ok hg rfl

/-! ## Sign extension (R382) -/

theorem sexHigh_msb (b : Byte) : (sexHigh b).msb = neg8 b := by
  rw [sexHigh, bit7_eq_neg8]
  cases neg8 b <;> rfl

/-- The sign in every bit of the high byte is the sign extension of the low one. -/
theorem joinBytes_sexHigh (b : Byte) : joinBytes (sexHigh b) b = BitVec.ofInt 16 b.toInt := by
  have hb := b.isLt
  apply BitVec.eq_of_toNat_eq
  rw [joinBytes_eq_ofNat, BitVec.toNat_ofNat, BitVec.toNat_ofInt, BitVec.toInt_eq_toNat_cond, sexHigh, bit7_eq_neg8,
    neg8]
  simp only [decide_eq_true_eq]
  split <;> split <;> simp <;> omega

theorem flagsAre_sexCC (b cc : Byte) : FlagsAre cc (sexCC b cc) (onlyNZ (neg8 b) (b == 0)) := by
  have zero : (joinBytes (sexHigh b) b == 0) = (b == 0) := by
    rw [Bool.eq_iff_iff, beq_iff_eq, beq_iff_eq]
    refine ⟨fun h => ?_, fun h => by rw [h]; rfl⟩
    rw [← loByte_joinBytes (sexHigh b) b, h]
    rfl
  intro g
  rw [sexCC, zero, sexHigh_msb]
  cases g <;> simp [onlyNZ]

/-- Of D only A is written: B is the low byte of its own sign extension. -/
theorem set16_d_signExtension (s : State) :
    s.set16 .d (BitVec.ofInt 16 s.b.toInt) = s.set8 .a (sexHigh s.b) := by
  rw [← joinBytes_sexHigh, State.set16, hiByte_joinBytes, loByte_joinBytes]
  rfl

theorem completesInh_sex : CompletesInh extended .sex (fun s => s.set16 .d (BitVec.ofInt 16 s.b.toInt))
    fun s => onlyNZ (neg8 s.b) (s.b == 0) := by
  intro s hg
  refine ⟨sexCC s.b s.cc, ?_, flagsAre_sexCC s.b s.cc⟩
  simp only [set16_d_signExtension]
  exact performGated_ok hg rfl

/-! ## ABX (R383) and the gate (R370) -/

theorem add_zext8_eq_ofNat (x : Word) (b : Byte) : x + zext8 b = BitVec.ofNat 16 (x.toNat + b.toNat) := by
  rw [BitVec.ofNat_add, BitVec.ofNat_toNat, BitVec.setWidth_eq, BitVec.ofNat_toNat]
  rfl

theorem exec_abx_extended {s : State} (hg : extended s.cfg) :
    exec .abx s = .next ((start .abx s).set16 .x (BitVec.ofNat 16 (s.x.toNat + s.b.toNat))) := by
  rw [← add_zext8_eq_ofNat]
  exact performGated_ok hg rfl

/-- An instruction of a tier that the configuration does not execute faults before its body. -/
theorem performGated_refused {tier : Tier} {i : Instr} {body : M Unit} {s : State}
    (h : tierAllowed s.cfg tier = false) : performGated tier i body s =
      stop (.unimplementedOpcode (opcodeOf i).1 (opcodeOf i).2) (start i s) :=
  finish_error (gated_refused h)

/-- Settles O33: MUL, ABX and SEX are each one update of the state behind the gate, here in exact arithmetic. -/
theorem multiplySignExtendAbxComplete : Obligations.MultiplySignExtendAbxComplete :=
  ⟨rfl, rfl, baseCycles_hardware _, baseCycles_hardware _, completesInh_mul, fun _ => exec_abx_extended,
    completesInh_sex, fun _ h => ⟨performGated_refused h, performGated_refused h⟩⟩

/-- Settles O34: the sum of the statement is `decimalSum`, whose completion O35 rests on too. -/
theorem daaComplete : Obligations.DaaComplete := completesInh_daa

end Sys2Proof.Machine

/-!
O41, the step of a waiting machine (spec/46_extension.md R390, R391, spec/60_exceptions.md R430, R470).
-/
namespace Sys2Proof.Machine

/-- A waiting machine with no IRQ to take runs no instruction. -/
theorem stepBody_of_waiting {s : State} (hwait : s.wait ≠ .none) (hirq : irqTaken s = false) :
    stepBody s = .next (s.withCyc 1) := by
  rw [stepBody, if_neg (by simp [hirq]), if_pos hwait]

theorem step_of_stepBody {s t : State} (hfault : s.fault = none) (h : stepBody (beginStep s) = .next t) :
    step s = endOfStep t := by
  simp only [step, stepOnce, hfault, stepLive, h]

theorem advanceDevices_wait (s : State) : (advanceDevices s).wait = s.wait := by
  unfold advanceDevices
  cases s.cfg.bus <;> rfl

theorem advanceDevices_cfg (s : State) : (advanceDevices s).cfg = s.cfg := by
  unfold advanceDevices
  split <;> rfl

/-- Under the mc6809 model the poll ends the SYNC wait where the IRQ line is asserted, and does nothing else (R430). -/
theorem poll_mc6809 {t : State} (h : t.cfg.interruptModel = .mc6809) :
    poll t = .ok ⟨⟩ (if t.wait = .sync ∧ t.irqLine then t.withWait .none else t) := by
  simp only [poll, h]
  split <;> rfl

/-- Under the mc6809 model the end of a step always answers: the devices advance, the budget is spent and the poll
follows. -/
theorem endOfStep_mc6809 {s : State} (h : s.cfg.interruptModel = .mc6809) :
    ∃ t, t = spendBudget (advanceDevices s) ∧ t.wait = s.wait ∧
      endOfStep s = .next (if t.wait = .sync ∧ t.irqLine then t.withWait .none else t) :=
  ⟨_, rfl, advanceDevices_wait s,
    finish_ok (poll_mc6809 ((congrArg Config.interruptModel (advanceDevices_cfg s)).trans h))⟩

/-- Settles O41: the step's first part only spends its cycle, and of its end the poll alone sees the wait. -/
theorem waitingStepSpendsOneCycle : Obligations.WaitingStepSpendsOneCycle := by
  intro s hfault hwait hirq
  have answer := step_of_stepBody hfault (stepBody_of_waiting (s := beginStep s) hwait hirq)
  refine ⟨answer, fun hmodel => ?_⟩
  obtain ⟨t, ht, kept, ended⟩ := endOfStep_mc6809 (s := (beginStep s).withCyc 1) hmodel
  have waits : t.wait = s.wait := kept
  rw [waits] at ended
  refine ⟨t, ht, waits, fun hsync => ?sync, fun hcwai => ?cwai⟩ <;> rw [answer, ended]
  case sync => simp [hsync]
  case cwai => simp [hcwai]

end Sys2Proof.Machine

/-!
O36 to O39, the software interrupts, RTI, CWAI and SYNC (spec/46_extension.md R385 to R391). Every entry is one push of
the whole register set, then a handler's address from a vector in the BIOS; RTI pulls the set, or CC and PC alone.
-/
namespace Sys2Proof.Machine

/-! ## The push of the register set (R385) -/

theorem flagsAre_setE (cc : Byte) :
    FlagsAre cc (putFlag .e true cc) (fun g => if g = .e then some true else none) := by
  intro g
  by_cases h : g = .e <;> simp [h]

/-- Outside the VIA's page a push of a list always answers, and where its bytes can be stored each register it selects
stands in its place. -/
theorem pushList_avoids {p : Stk} {m : Byte} {s : State}
    (h : avoidsVia s.cfg.bus (below (s.get16 (stkReg p)) (listBytes m)) = true) :
    ∃ mem, pushList p m s =
        .ok ⟨⟩ ((s.set16 (stkReg p) (s.get16 (stkReg p) - listSize m)).withMem mem) ∧
      SameBytesOutside (below (s.get16 (stkReg p)) (listBytes m)) s (s.withMem mem) ∧
      (s.mem.wf = true → (below (s.get16 (stkReg p)) (listBytes m)).all (storable s.cfg.bus) = true →
        ListStands p m (s.get16 (stkReg p) - listSize m) s (s.withMem mem)) := by
  rw [← length_listImage p m s] at h
  obtain ⟨mem, pushed, stands⟩ :=
    pushAll_avoids (by rw [length_listImage]; exact (listBytes_le m).trans (by decide)) h
  rw [length_listImage] at pushed stands
  rw [← pushList_eq_pushAll] at pushed
  refine ⟨mem, pushed, ?_, fun hm hs => ?_⟩
  · obtain ⟨-, outside⟩ := (pushes_pushList m).storesTo pushed
    simpa only [SameBytesOutside, ← State.set16_withMem, peek_set16] using outside
  · obtain ⟨-, held⟩ := stands hm hs
    exact listStands_of_holdsBytes held

/-- Where it answers, the push of the register set moves S down by its 12 bytes. -/
theorem sp_of_pushEntire {s t : State} (h : pushEntire s = .ok ⟨⟩ t) : t.sp = s.sp - 12 := by
  obtain ⟨-, moves⟩ := pushes_pushList (p := .s) 0xFF
  exact moves (s := s.withCC (putFlag .e true s.cc)) h

/-- Outside the VIA's page the push of the register set always answers. -/
theorem pushEntire_avoids {s : State} (h : avoidsVia s.cfg.bus (below s.sp 12) = true) :
    ∃ mem, pushEntire s =
        .ok ⟨⟩ (((s.withCC (putFlag .e true s.cc)).set16 .s (s.sp - 12)).withMem mem) ∧
      SameBytesOutside (below s.sp 12) s (s.withMem mem) ∧
      (s.mem.wf = true → (below s.sp 12).all (storable s.cfg.bus) = true →
        ListStands .s 0xFF (s.sp - 12) (s.withCC (putFlag .e true s.cc)) (s.withMem mem)) :=
  pushList_avoids (p := .s) (m := 0xFF) (s := s.withCC (putFlag .e true s.cc)) h

/-! ## The same bytes, seen from other states -/

/-- What stands outside a list of addresses depends on memory and configuration alone. -/
theorem SameBytesOutside.of_same {as : List Word} {s t s' t' : State} (h : SameBytesOutside as s t)
    (hc : s'.cfg = s.cfg) (hs : ∀ a, s'.peek a = s.peek a) (ht : ∀ a, t'.peek a = t.peek a) :
    SameBytesOutside as s' t' := by
  intro b hb
  rw [hc] at hb
  rw [hs, ht, h b hb]

/-- What a list stands for depends on the registers and the bytes of memory alone. -/
theorem ListStands.of_same {p : Stk} {m : Byte} {sp : Word} {s t s' t' : State} (h : ListStands p m sp s t)
    (h8 : ∀ r, s'.get8 r = s.get8 r) (h16 : ∀ r, s'.get16 r = s.get16 r) (ht : ∀ a, t'.peek a = t.peek a) :
    ListStands p m sp s' t' := by
  obtain ⟨cc, a, b, dp, x, y, other, pc⟩ := h
  have word := wordAt_congr ht
  exact ⟨fun sel => (ht _).trans ((cc sel).trans (congrArg some (h8 .cc).symm)),
    fun sel => (ht _).trans ((a sel).trans (congrArg some (h8 .a).symm)),
    fun sel => (ht _).trans ((b sel).trans (congrArg some (h8 .b).symm)),
    fun sel => (ht _).trans ((dp sel).trans (congrArg some (h8 .dp).symm)),
    fun sel => (word _).trans ((x sel).trans (h16 .x).symm), fun sel => (word _).trans ((y sel).trans (h16 .y).symm),
    fun sel => (word _).trans ((other sel).trans (h16 _).symm),
    fun sel => (word _).trans ((pc sel).trans (h16 .pc).symm)⟩

/-! ## The entry into a handler -/

/-- The vectors lie in the BIOS, which is memory on every bus (spec/20_memory.md R68, R76). -/
theorem peek_isSome_of_bios (s : State) {a : Word} (h : 0xE000 ≤ a.toNat) : (s.peek a).isSome := by
  refine peek_isSome_of_avoids ?_
  cases s.cfg.bus with
  | flatTest => simp [region]
  | vectrex =>
    rw [Ne, region_vectrex_eq_via_iff]
    omega

theorem enterHandler_apply {vector : Word} (hh : 0xE000 ≤ vector.toNat) (hl : 0xE000 ≤ (vector + 1).toNat)
    (mask : Byte) (s : State) :
    enterHandler mask vector s = .ok ⟨⟩ ((s.withCC (s.cc ||| mask)).withPC (s.wordAt vector)) := by
  have target := read16_of_isSome (s := s.withCC (s.cc ||| mask)) (peek_isSome_of_bios _ hh) (peek_isSome_of_bios _ hl)
  exact (M.bind_ok (M.modify_apply _ s)).trans (M.bind_ok target)

/-- The push of the register set and the entry after it, from any cycle count, outside the VIA's page: memory, S, CC
and PC are all that changes. -/
theorem entryEffect_of_pushEntire {s : State} {mask : Byte} {fl : Flag → Option Bool}
    (hfl : ∀ cc, FlagsAre cc (putFlag .e true cc ||| mask) fl) (vector : Word)
    (h : avoidsVia s.cfg.bus (below s.sp 12) = true) (n : Nat) :
    ∃ t, pushEntire (s.withCyc n) = .ok ⟨⟩ t ∧
      EntryEffect fl vector n s ((t.withCC (t.cc ||| mask)).withPC (t.wordAt vector)) := by
  obtain ⟨mem, pushed, outside, stands⟩ := pushEntire_avoids (s := s.withCyc n) h
  refine ⟨_, pushed, ?flags, ?sp, ?pc, ?cyc, ?a, ?b, ?dp, ?x, ?y, ?u, ?wait, ?devices, ?outside,
    fun hm hs => ?stands⟩
  case flags => simpa using hfl s.cc
  case sp | cyc | a | b | dp | x | y | u | wait => simp
  case pc => simp [State.wordAt, State.byteAt, State.peek]
  case devices => simp [SameDevices]
  case outside => exact outside.of_same (by simp) (peek_congr (by simp) (by simp)) (peek_congr (by simp) (by simp))
  case stands =>
    exact ⟨_, flagsAre_setE s.cc, (stands hm hs).of_same (fun r => by cases r <;> simp)
      (fun r => by cases r <;> simp [State.d]) (peek_congr (by simp) (by simp))⟩

/-- The instruction takes an exception through a vector in the BIOS. -/
structure TakesException (i : Instr) (mask : Byte) (vector : Word) : Prop where
  exec_eq : ∀ s, exec i s = performGated .extension i (takeException mask vector) s
  high : 0xE000 ≤ vector.toNat
  low : 0xE000 ≤ (vector + 1).toNat

theorem takesException_swi : TakesException .swi maskIF vectorSwi := ⟨fun _ => rfl, by decide, by decide⟩

theorem takesException_swi2 : TakesException .swi2 0 vectorSwi2 := ⟨fun _ => rfl, by decide, by decide⟩

theorem takesException_swi3 : TakesException .swi3 0 vectorSwi3 := ⟨fun _ => rfl, by decide, by decide⟩

section SoftwareInterrupt

variable {i : Instr} {mask : Byte} {vector : Word} (hi : TakesException i mask vector) {s : State}
  (hg : extended s.cfg)
include hi hg

/-- A software interrupt completes wherever its push does, in the VIA's page too. -/
theorem TakesException.exec_ok {t : State} (h : pushEntire (start i s) = .ok ⟨⟩ t) :
    exec i s = .next ((t.withCC (t.cc ||| mask)).withPC (t.wordAt vector)) ∧ t.sp = s.sp - 12 :=
  ⟨(hi.exec_eq s).trans (performGated_ok hg ((M.bind_ok h).trans (enterHandler_apply hi.high hi.low mask t))),
    sp_of_pushEntire (s := start i s) h⟩

/-- Outside the VIA's page a software interrupt always completes. -/
theorem TakesException.entryEffect {fl : Flag → Option Bool}
    (hfl : ∀ cc, FlagsAre cc (putFlag .e true cc ||| mask) fl)
    (h : avoidsVia s.cfg.bus (below s.sp 12) = true) :
    ∃ t, exec i s = .next t ∧ EntryEffect fl vector (baseCycles s.cfg i) s t := by
  obtain ⟨t, pushed, effect⟩ := entryEffect_of_pushEntire hfl vector h (baseCycles s.cfg i)
  obtain ⟨answer, -⟩ := hi.exec_ok hg pushed
  exact ⟨_, answer, effect⟩

end SoftwareInterrupt

/-- Where nothing is masked, CC stays as the push left it. -/
theorem TakesException.exec_ok_unmasked {i : Instr} {vector : Word} (hi : TakesException i 0 vector) {s t : State}
    (hg : extended s.cfg) (h : pushEntire (start i s) = .ok ⟨⟩ t) :
    exec i s = .next (t.withPC (t.wordAt vector)) ∧ t.sp = s.sp - 12 := by
  have unmasked : t.cc ||| 0 = t.cc := BitVec.or_zero
  have answer := hi.exec_ok hg h
  rwa [unmasked] at answer

theorem flag_maskIF_eq (g : Flag) : flag g maskIF = decide (g = .i ∨ g = .f) := by
  cases g <;> rfl

theorem flagsAre_setE_maskIF (cc : Byte) : FlagsAre cc (putFlag .e true cc ||| maskIF)
    (fun g => if g = .e ∨ g = .i ∨ g = .f then some true else none) := by
  intro g
  rw [flag_or, flag_putFlag, flag_maskIF_eq]
  by_cases he : g = .e <;> by_cases hif : g = .i ∨ g = .f <;> simp [he, hif]

theorem flagsAre_setE_unmasked (cc : Byte) :
    FlagsAre cc (putFlag .e true cc ||| 0) (fun g => if g = .e then some true else none) := by
  have unmasked : putFlag .e true cc ||| 0 = putFlag .e true cc := BitVec.or_zero
  rw [unmasked]
  exact flagsAre_setE cc

/-- Settles O36: the three differ in the vector and in what they mask. -/
theorem softwareInterruptsComplete : Obligations.SoftwareInterruptsComplete :=
  ⟨fun _ hg => takesException_swi.entryEffect hg flagsAre_setE_maskIF,
    fun _ hg => takesException_swi2.entryEffect hg flagsAre_setE_unmasked,
    fun _ hg => takesException_swi3.entryEffect hg flagsAre_setE_unmasked,
    fun _ _ hg h => takesException_swi.exec_ok hg h,
    fun _ _ hg h => takesException_swi2.exec_ok_unmasked hg h,
    fun _ _ hg h => takesException_swi3.exec_ok_unmasked hg h,
    baseCycles_hardware _, baseCycles_hardware _, baseCycles_hardware _⟩

/-! ## CWAI and SYNC -/

/-- Only the mc6809 model with the extension set executes the instructions that wait (R370). -/
theorem tierAllowed_waiting {c : Config} (hg : extended c) (hm : c.interruptModel = .mc6809) :
    tierAllowed c .waiting = true := by
  have allowed : c.extendedSet = true := hg
  simp [tierAllowed, allowed, hm]

theorem tierAllowed_waiting_eq_false {c : Config} (h : c.extendedSet = false ∨ c.interruptModel = .fault) :
    tierAllowed c .waiting = false := by
  obtain h | h := h <;> simp [tierAllowed, h]

/-- CWAI completes wherever its push does, in the VIA's page too. -/
theorem exec_cwai_ok {m : Byte} {s t : State} (hg : extended s.cfg) (hm : s.cfg.interruptModel = .mc6809)
    (h : pushEntire ((start (.cwai m) s).withCC (s.cc &&& m)) = .ok ⟨⟩ t) :
    exec (.cwai m) s = .next (t.withWait .cwai) :=
  performGated_ok (tierAllowed_waiting hg hm) ((M.bind_ok (M.modify_apply _ _)).trans (M.bind_ok h))

/-- Settles O39: CWAI is a push of the register set with its CC masked first; both write the wait last. -/
theorem waitInstructionsComplete : Obligations.WaitInstructionsComplete := by
  refine ⟨fun s hg hm => ?sync, fun m s hg hm h => ?cwai, fun m s t hg hm h => ?push, fun m s h => ?gate⟩
  case sync => exact performGated_ok (tierAllowed_waiting hg hm) (M.modify_apply _ _)
  case cwai =>
    obtain ⟨mem, pushed, outside, stands⟩ :=
      pushEntire_avoids (s := (start (.cwai m) s).withCC (s.cc &&& m)) h
    exact ⟨mem, _, exec_cwai_ok hg hm pushed, flagsAre_setE (s.cc &&& m), outside, stands⟩
  case push => exact ⟨exec_cwai_ok hg hm h, sp_of_pushEntire (s := (start (.cwai m) s).withCC (s.cc &&& m)) h⟩
  case gate =>
    have refused := tierAllowed_waiting_eq_false h
    exact ⟨performGated_refused refused, performGated_refused refused⟩

/-! ## What every pull from S does to S and to the cycle count -/

/-- Where it answers, the computation moves S up by `n` and spends no cycle. -/
def Pulls {α : Type} (n : Nat) (m : M α) : Prop :=
  ∀ ⦃s : State⦄ ⦃a : α⦄ ⦃t : State⦄, m s = .ok a t → t.sp = s.sp + BitVec.ofNat 16 n ∧ t.cyc = s.cyc

section Pulling

variable {α β : Type}

theorem Pulls.bind {n k : Nat} {m : M α} {f : α → M β} (hm : Pulls n m) (hf : ∀ a, Pulls k (f a)) :
    Pulls (n + k) (m >>= f) := by
  intro s b u e
  obtain ⟨a, t, e1, e2⟩ := M.bind_eq_ok e
  obtain ⟨sp1, cyc1⟩ := hm e1
  obtain ⟨sp2, cyc2⟩ := hf a e2
  exact ⟨by rw [sp2, sp1, BitVec.ofNat_add, BitVec.add_assoc], cyc2.trans cyc1⟩

theorem pulls_pure (a : α) : Pulls 0 (pure a : M α) := by
  intro s b t e
  cases e
  exact ⟨(BitVec.add_zero _).symm, rfl⟩

theorem pulls_set8 (r : Reg8) (v : Byte) : Pulls 0 (modify fun s => s.set8 r v) := by
  intro s b t e
  cases e
  exact ⟨(State.set8_sp s r v).trans (BitVec.add_zero _).symm, State.set8_cyc s r v⟩

theorem pulls_set16 {r : Reg16} (hr : .s ≠ r) (v : Word) : Pulls 0 (modify fun s => s.set16 r v) := by
  intro s b t e
  cases e
  exact ⟨(State.get16_set16_ne s v hr).trans (BitVec.add_zero _).symm, State.set16_cyc s r v⟩

theorem pulls_pull8 : Pulls 1 (pull8 .s) := by
  intro s v u e
  obtain ⟨_, _, e0, e⟩ := M.bind_eq_ok e
  cases e0
  obtain ⟨_, t, read, e⟩ := M.bind_eq_ok e
  obtain ⟨w, rfl⟩ := read8_frame read
  cases e
  exact ⟨rfl, rfl⟩

theorem pulls_pull16 : Pulls 2 (pull16 .s) :=
  pulls_pull8.bind fun _ => pulls_pull8.bind fun _ => pulls_pure _

theorem pulls_pullIf8 (sel : Bool) (r : Reg8) : Pulls sel.toNat (pullIf8 .s sel r) := by
  cases sel with
  | false => exact pulls_pure _
  | true => exact pulls_pull8.bind fun v => pulls_set8 r v

theorem pulls_pullIf16 (sel : Bool) {r : Reg16} (hr : .s ≠ r) : Pulls (2 * sel.toNat) (pullIf16 .s sel r) := by
  cases sel with
  | false => exact pulls_pure _
  | true => exact pulls_pull16.bind fun v => pulls_set16 hr v

theorem pulls_pullList (m : Byte) : Pulls (listBytes m) (pullList .s m) := by
  obtain ⟨notX, notY, notU, notPC⟩ := stkReg_ne .s
  rw [listBytes_eq]
  exact (pulls_pullIf8 _ .cc).bind fun _ => (pulls_pullIf8 _ .a).bind fun _ => (pulls_pullIf8 _ .b).bind fun _ =>
    (pulls_pullIf8 _ .dp).bind fun _ => (pulls_pullIf16 _ notX).bind fun _ => (pulls_pullIf16 _ notY).bind fun _ =>
    (pulls_pullIf16 _ notU).bind fun _ => pulls_pullIf16 _ notPC

end Pulling

/-! ## Computations that do not see the cycle count -/

/-- Where it answers, the computation answers the same from any cycle count. -/
def IgnoresCyc {α : Type} (m : M α) : Prop :=
  ∀ ⦃s : State⦄ ⦃a : α⦄ ⦃t : State⦄, m s = .ok a t → ∀ n, m (s.withCyc n) = .ok a (t.withCyc n)

theorem IgnoresCyc.bind {α β : Type} {m : M α} {f : α → M β} (hm : IgnoresCyc m) (hf : ∀ a, IgnoresCyc (f a)) :
    IgnoresCyc (m >>= f) := by
  intro s b u e n
  obtain ⟨a, t, e1, e2⟩ := M.bind_eq_ok e
  exact (M.bind_ok (hm e1 n)).trans (hf a e2 n)

theorem portARead_withCyc (s : State) (n : Nat) : portARead (s.withCyc n) = (portARead s).withCyc n := by
  by_cases h : s.psg.mode = .read <;> simp [portARead, h]
  rfl

theorem ignoresCyc_viaRead (a : Word) : IgnoresCyc (viaRead a) := by
  intro s v t e n
  unfold viaRead at e ⊢
  cases hr : viaReg a <;> rw [hr] at e <;> simp only at e ⊢
  case unlisted => cases e
  case portA =>
    cases e
    exact congrArg (EStateM.Result.ok _) (portARead_withCyc s n)
  all_goals cases e; rfl

theorem ignoresCyc_read8 (a : Word) : IgnoresCyc (read8 a) := by
  intro s v t e n
  cases hp : s.peek a with
  | some b =>
    rw [read8_of_peek hp] at e
    cases e
    exact read8_of_peek hp
  | none =>
    rw [read8_of_via hp] at e
    exact (read8_of_via (s := s.withCyc n) hp).trans (ignoresCyc_viaRead a e n)

theorem ignoresCyc_pull8 : IgnoresCyc (pull8 .s) := by
  intro s v u e n
  obtain ⟨_, _, e0, e⟩ := M.bind_eq_ok e
  cases e0
  obtain ⟨_, t, read, e⟩ := M.bind_eq_ok e
  cases e
  exact (M.bind_ok (M.get_apply _)).trans (M.bind_ok (ignoresCyc_read8 _ read n))

theorem ignoresCyc_pullPC : IgnoresCyc (pullIf16 .s true .pc) :=
  (ignoresCyc_pull8.bind fun _ => ignoresCyc_pull8.bind fun _ _ _ _ e _ => by cases e; rfl).bind
    fun _ _ _ _ e _ => by cases e; rfl

/-! ## RTI -/

/-- The pulls of the registers that stand between CC and PC (R389). -/
def pullMiddle : M Unit := do
  pullIf8 .s true .a
  pullIf8 .s true .b
  pullIf8 .s true .dp
  pullIf16 .s true .x
  pullIf16 .s true .y
  pullIf16 .s true .u

theorem pullList_afterCC : pullList .s 0xFE = (do pullMiddle; pullIf16 .s true .pc) := by
  simp only [pullMiddle, bind_assoc]
  rfl

theorem returnFromException_eq : returnFromException = (do
    pullIf8 .s true .cc
    let s ← get
    if flag .e s.cc then do
      pullMiddle
      addCyc 9
      pullIf16 .s true .pc
    else pullIf16 .s true .pc) := by
  simp only [pullMiddle, bind_assoc]
  rfl

section Return

variable {s t u : State} (hcc : pullIf8 .s true .cc s = .ok ⟨⟩ t)
include hcc

/-- With E pulled, the rest of the register set follows, for 9 cycles more. -/
theorem returnFromException_entire (he : flag .e t.cc = true) (h : pullList .s 0xFE t = .ok ⟨⟩ u) :
    returnFromException s = .ok ⟨⟩ (u.withCyc (u.cyc + 9)) := by
  rw [pullList_afterCC] at h
  obtain ⟨_, v, middle, pc⟩ := M.bind_eq_ok h
  obtain ⟨-, spent⟩ := pulls_pullIf16 true (by decide) pc
  rw [returnFromException_eq, M.bind_ok hcc, M.bind_ok (M.get_apply t), if_pos he, M.bind_ok middle,
    M.bind_ok (addCyc_apply 9 v), spent]
  exact ignoresCyc_pullPC pc _

/-- With E clear, only PC follows. -/
theorem returnFromException_short (he : flag .e t.cc = false) (h : pullIf16 .s true .pc t = .ok ⟨⟩ u) :
    returnFromException s = .ok ⟨⟩ u := by
  rw [returnFromException_eq, M.bind_ok hcc, M.bind_ok (M.get_apply t), if_neg (by simp [he])]
  exact h

end Return

/-! ### RTI outside the VIA's page -/

theorem pulled8_unselected (s : State) (p : Stk) (r : Reg8) : s.pulled8 p false r = s := by
  simp [State.pulled8, State.set16_get16, State.set8_get8]

/-- A pull of CC and then of the others is a pull of the whole register set. -/
theorem pulledList_afterCC (s : State) :
    (s.pulled8 .s true .cc).pulledList .s 0xFE = s.pulledList .s 0xFF :=
  congrArg (fun t => ((((((t.pulled8 .s true .a).pulled8 .s true .b).pulled8 .s true .dp).pulled16 .s true
    .x).pulled16 .s true .y).pulled16 .s true .u).pulled16 .s true .pc) (pulled8_unselected _ .s .cc)

/-- Where the registers of the whole set stand above the new S (R385). -/
theorem listOffset_entire : listOffset 0xFF 0 = 0 ∧ listOffset 0xFF 1 = 1 ∧ listOffset 0xFF 2 = 2 ∧
    listOffset 0xFF 3 = 3 ∧ listOffset 0xFF 4 = 4 ∧ listOffset 0xFF 5 = 6 ∧ listOffset 0xFF 6 = 8 ∧
    listOffset 0xFF 7 = 10 := by decide

theorem listSize_entire : listSize 0xFF = 12 := by decide

/-- With E set in the byte at S, each register is read at its place in the list (O31). -/
theorem exec_rti_entire {s : State} (hg : extended s.cfg) (he : flag .e (s.byteAt s.sp) = true)
    (h : avoidsVia s.cfg.bus (upFrom s.sp 12) = true) :
    ∃ t, exec .rti s = .next t ∧ t.sp = s.sp + 12 ∧
      (∀ q, t.get8 q = s.byteAt (s.sp + listOffset 0xFF (listBit8 q))) ∧
      (∀ q ∈ [.x, .y, .u, .pc], t.get16 q = s.wordAt (s.sp + listOffset 0xFF (listBit16 q))) ∧
      t.cyc = baseCycles s.cfg .rti + 9 ∧ t.mem = s.mem ∧ t.wait = s.wait ∧ SameDevices s t := by
  have whole : Pullable .s (true.toNat + 11) (start .rti s) := h
  obtain ⟨cc, others⟩ := whole.pull8 .cc
  have rest := pullList_apply (m := 0xFE) others
  rw [pulledList_afterCC] at rest
  have moved := get16_stkReg_pulledList .s 0xFF (start .rti s)
  rw [listSize_entire, get16_start] at moved
  refine ⟨_, performGated_ok hg (returnFromException_entire cc he rest), ?_, fun q => ?_, fun q hq => ?_,
    (sameButRegisters_pulledList .s 0xFF (start .rti s)).of_start 9⟩
  · rw [State.withCyc_sp]
    exact moved
  · have selected : (0xFF : Byte).getLsbD (listBit8 q) = true := by cases q <;> rfl
    rw [get8_withCyc, get8_pulledList, if_pos selected, get16_start, byteAt_start]
    rfl
  · have selected : (0xFF : Byte).getLsbD (listBit16 q) = true := by fin_cases hq <;> rfl
    rw [get16_withCyc, get16_pulledList .s 0xFF _ hq, if_pos selected, get16_start, wordAt_start]
    rfl

/-- With E clear in the byte at S, CC and PC are read from the 3 bytes there and no other register changes. -/
theorem exec_rti_short {s : State} (hg : extended s.cfg) (he : flag .e (s.byteAt s.sp) = false)
    (h : avoidsVia s.cfg.bus (upFrom s.sp 3) = true) :
    ∃ t, exec .rti s = .next t ∧ t.sp = s.sp + 3 ∧ t.cc = s.byteAt s.sp ∧ t.pc = s.wordAt (s.sp + 1) ∧
      (∀ q, q ≠ .cc → t.get8 q = s.get8 q) ∧ (∀ q ∈ [.x, .y, .u], t.get16 q = s.get16 q) ∧
      t.mem = s.mem ∧ t.wait = s.wait ∧ t.cyc = baseCycles s.cfg .rti ∧ SameDevices s t := by
  have whole : Pullable .s (true.toNat + 2) (start .rti s) := h
  obtain ⟨cc, others⟩ := whole.pull8 .cc
  obtain ⟨pc, -⟩ := Pullable.pull16 (sel := true) (n := 0) others (r := .pc) (by decide)
  have moved : ((start .rti s).pulled8 .s true .cc).get16 .s = s.sp + 1 := get16_pulled8 .s _ true .cc (by decide)
  have bytes (q : Reg8) := get8_pulled16 .s ((start .rti s).pulled8 .s true .cc) true (r := .pc) (by decide) q
  have words (q : Reg16) := get16_pulled16 .s ((start .rti s).pulled8 .s true .cc) true .pc q
  simp only [get8_pulled8, get16_start, get8_start, byteAt_start] at bytes
  simp only [wordAt_pulled8, wordAt_start, stkReg, moved] at words
  refine ⟨_, performGated_ok hg (returnFromException_short cc he pc), ?sp, ?cc, ?pc, fun q hq => ?bytes,
    fun q hq => ?words,
    (sameButRegisters_pulled8 .s (start .rti s) true .cc).trans (sameButRegisters_pulled16 .s _ true .pc)⟩
  case sp => exact (words .s).trans (BitVec.add_assoc s.sp 1 2)
  case cc => exact bytes .cc
  case pc => exact words .pc
  case bytes => rw [bytes, if_neg hq]
  case words =>
    obtain ⟨notPC, notS, notD⟩ : q ≠ .pc ∧ q ≠ .s ∧ q ≠ .d := by fin_cases hq <;> decide
    rw [words, if_neg notPC, if_neg notS, get16_pulled8 .s _ true .cc notD, stkReg, if_neg notS, get16_start]

/-- Settles O37: RTI pulls CC; with E set the pull of the whole list follows, which O31 describes register by
register, and with E clear the pull of PC. -/
theorem returnFromInterruptComplete : Obligations.ReturnFromInterruptComplete := by
  refine ⟨fun s hg he h => ?entire, fun s hg he h => ?short, fun s t u c hg hc he h => ?entireVia,
    fun s t u c w hg hc he h => ?shortVia, baseCycles_hardware _⟩
  case entire =>
    obtain ⟨t, answer, sp, bytes, words, cyc, mem, wait, devices⟩ := exec_rti_entire hg he h
    obtain ⟨atCC, atA, atB, atDP, atX, atY, atU, atPC⟩ := listOffset_entire
    refine ⟨t, answer, ?cc, mem, wait, devices, ?a, ?b, ?dp, ?x, ?y, ?u, ?pc, sp, cyc⟩
    case cc => rw [← add_zero s.sp, ← atCC]; exact bytes .cc
    case a => rw [← atA]; exact bytes .a
    case b => rw [← atB]; exact bytes .b
    case dp => rw [← atDP]; exact bytes .dp
    case x => rw [← atX]; exact words .x (by decide)
    case y => rw [← atY]; exact words .y (by decide)
    case u => rw [← atU]; exact words .u (by decide)
    case pc => rw [← atPC]; exact words .pc (by decide)
  case short =>
    obtain ⟨t, answer, sp, cc, pc, bytes, words, mem, wait, cyc, devices⟩ := exec_rti_short hg he h
    exact ⟨t, answer, cc, mem, wait, devices, bytes .a (by decide), bytes .b (by decide), bytes .dp (by decide),
      words .x (by decide), words .y (by decide), words .u (by decide), pc, sp, cyc⟩
  case entireVia =>
    have cc : pullIf8 .s true .cc (start .rti s) = .ok ⟨⟩ (t.withCC c) := M.bind_ok hc
    obtain ⟨sp1, cyc1⟩ := pulls_pull8 hc
    obtain ⟨sp2, cyc2⟩ := pulls_pullList 0xFE h
    have spent : u.cyc = baseCycles s.cfg .rti := cyc2.trans cyc1
    have answer : exec .rti s = .next (u.withCyc (u.cyc + 9)) :=
      performGated_ok hg (returnFromException_entire cc he h)
    rw [spent] at answer
    refine ⟨answer, ?_⟩
    rw [sp2, State.withCC_sp, sp1, BitVec.add_assoc]
    rfl
  case shortVia =>
    have cc : pullIf8 .s true .cc (start .rti s) = .ok ⟨⟩ (t.withCC c) := M.bind_ok hc
    have pc : pullIf16 .s true .pc (t.withCC c) = .ok ⟨⟩ (u.withPC w) := M.bind_ok h
    obtain ⟨sp1, -⟩ := pulls_pull8 hc
    obtain ⟨sp2, -⟩ := pulls_pull16 h
    refine ⟨performGated_ok hg (returnFromException_short cc he pc), ?_⟩
    rw [sp2, State.withCC_sp, sp1, BitVec.add_assoc]
    rfl

/-! ## A software interrupt and RTI -/

/-- Bytes that can be stored are none of the VIA's. -/
theorem avoidsVia_of_storable {bus : BusConfig} {as : List Word} (h : as.all (storable bus) = true) :
    avoidsVia bus as = true := by
  rw [avoidsVia, List.all_eq_true]
  intro a ha
  obtain e | e := (storable_iff bus a).mp (List.all_eq_true.mp h a ha) <;> rw [e] <;> rfl

/-- The bytes that a push stored can be pulled. -/
theorem avoidsVia_upFrom_sub {bus : BusConfig} {sp : Word} {n : Nat} (h : avoidsVia bus (below sp n) = true) :
    avoidsVia bus (upFrom (sp - BitVec.ofNat 16 n) n) = true :=
  List.all_eq_true.mpr fun b hb => List.all_eq_true.mp h b (upFrom_sub_subset sp b hb)

/-- Where the whole register set stands, each of its bytes and words is a register. -/
theorem ListStands.entire {sp : Word} {s t : State} (h : ListStands .s 0xFF sp s t) :
    t.byteAt sp = s.cc ∧ t.byteAt (sp + 1) = s.a ∧ t.byteAt (sp + 2) = s.b ∧ t.byteAt (sp + 3) = s.dp ∧
      t.wordAt (sp + 4) = s.x ∧ t.wordAt (sp + 6) = s.y ∧ t.wordAt (sp + 8) = s.u ∧
      t.wordAt (sp + 10) = s.pc := by
  obtain ⟨cc, a, b, dp, x, y, u, pc⟩ := h
  obtain ⟨atCC, atA, atB, atDP, atX, atY, atU, atPC⟩ := listOffset_entire
  rw [atCC, add_zero] at cc
  rw [atA] at a
  rw [atB] at b
  rw [atDP] at dp
  rw [atX] at x
  rw [atY] at y
  rw [atU] at u
  rw [atPC] at pc
  have byte {k : Word} {v : Byte} (e : t.peek k = some v) : t.byteAt k = v := by
    rw [State.byteAt, e, Option.getD_some]
  exact ⟨byte (cc rfl), byte (a rfl), byte (b rfl), byte (dp rfl), x rfl, y rfl, u rfl, pc rfl⟩

/-- Each of the three software interrupts has the effect of an entry (O36). -/
theorem exec_softwareInterrupt {i : Instr} {s : State} (hi : i = .swi ∨ i = .swi2 ∨ i = .swi3) (hg : extended s.cfg)
    (h : avoidsVia s.cfg.bus (below s.sp 12) = true) :
    ∃ t fl vector cycles, exec i s = .next t ∧ EntryEffect fl vector cycles s t := by
  obtain ⟨swi, swi2, swi3, -⟩ := softwareInterruptsComplete
  obtain rfl | rfl | rfl := hi
  · obtain ⟨t, effect⟩ := swi s hg h
    exact ⟨t, _, _, _, effect⟩
  · obtain ⟨t, effect⟩ := swi2 s hg h
    exact ⟨t, _, _, _, effect⟩
  · obtain ⟨t, effect⟩ := swi3 s hg h
    exact ⟨t, _, _, _, effect⟩

/-- Settles O38: what stands on the stack after the entry (O36) is what RTI pulls (O37), with E set. -/
theorem softwareInterruptThenReturn : Obligations.SoftwareInterruptThenReturn := by
  intro i s hi hg hm hs
  have avoids := avoidsVia_of_storable hs
  obtain ⟨t, fl, vector, cycles, entered, effect⟩ := exec_softwareInterrupt hi hg avoids
  obtain ⟨-, sp, -, -, -, -, -, -, -, -, -, ⟨-, -, -, -, -, -, cfg⟩, -, stands⟩ := effect
  obtain ⟨cc, flags, list⟩ := stands hm hs
  obtain ⟨atCC, atA, atB, atDP, atX, atY, atU, atPC⟩ := list.entire
  rw [← sp] at atCC atA atB atDP atX atY atU atPC
  have pullable := avoidsVia_upFrom_sub avoids
  obtain ⟨entire, -⟩ := returnFromInterruptComplete
  obtain ⟨u, returned, cc', -, -, -, a, b, dp, x, y, u', pc, sp', -⟩ :=
    entire t (by rwa [cfg]) (by rw [atCC]; exact flags .e) (by rw [cfg, sp]; exact pullable)
  refine ⟨t, u, entered, returned, a.trans atA, b.trans atB, dp.trans atDP, x.trans atX, y.trans atY, u'.trans atU,
    ?_, pc.trans atPC, ?_⟩
  · rw [sp', sp, BitVec.sub_add_cancel]
  · rw [cc', atCC]
    exact flags

end Sys2Proof.Machine

/-!
O49 to O52, the registers of the VIA (spec/60_exceptions.md R440 to R456, R484 to R486). An access in the VIA's page
is known by the low four bits of its address; each register is one clause of the model's read and of its write.
-/
namespace Sys2Proof.Machine

/-! ## The register an address selects -/

/-- The place of a register in the map of R440. -/
def ViaReg.index : ViaReg → Nat
  | .portB => 0
  | .portA => 1
  | .ddrb => 2
  | .ddra => 3
  | .t1CounterLow => 4
  | .t1CounterHigh => 5
  | .t1LatchLow => 6
  | .t1LatchHigh => 7
  | .t2Low => 8
  | .t2High => 9
  | .shift => 10
  | .auxControl => 11
  | .peripheralControl => 12
  | .interruptFlag => 13
  | .interruptEnable => 14
  | .unlisted => 15

theorem viaReg_index (a : Word) : (viaReg a).index = a.toNat % 16 := by
  have low : (a.extractLsb' 0 4).toNat = a.toNat % 16 := by simp [BitVec.extractLsb'_toNat]
  have bound : a.toNat % 16 < 16 := Nat.mod_lt _ (by decide)
  unfold viaReg
  rw [low]
  generalize a.toNat % 16 = n at bound
  interval_cases n <;> rfl

theorem ViaReg.index_inj {r q : ViaReg} (h : r.index = q.index) : r = q := by
  cases r <;> cases q <;> first | rfl | cases h

theorem viaReg_of_mod {a : Word} {r : ViaReg} (h : a.toNat % 16 = r.index) : viaReg a = r :=
  ViaReg.index_inj ((viaReg_index a).trans h)

section Access

variable {s : State} {a : Word} (h : region s.cfg.bus a = .via)
include h

theorem read8_via : read8 a s = viaRead a s := read8_of_via ((peek_eq_none s a).mpr h)

theorem write8_via (x : Byte) : write8 a x s = viaWrite a x s := by
  unfold write8; rw [h]

end Access

/-! ## Reads -/

/-- On output pins a port reads its output register. -/
theorem portPins_output (out ddr input : Byte) : portPins out ddr input &&& ddr = out &&& ddr := by
  ext i hi
  simp only [portPins, BitVec.getElem_and, BitVec.getElem_or, BitVec.getElem_not]
  cases ddr[i] <;> simp

/-- On input pins a port reads the input. -/
theorem portPins_input (out ddr input : Byte) : portPins out ddr input &&& ~~~ddr = input &&& ~~~ddr := by
  ext i hi
  simp only [portPins, BitVec.getElem_and, BitVec.getElem_or, BitVec.getElem_not]
  cases ddr[i] <;> simp

/-- A flag register below a bit 7 (R431, R451). -/
theorem ofBool_append (b : Bool) (v : BitVec 7) :
    BitVec.ofBool b ++ v = if b then 0x80 ||| zeroTop v else zeroTop v := by
  revert v
  cases b <;> decide

theorem portARead_eq (s : State) : ∃ k, portARead s = s.withVia { s.via with draws := k } := by
  unfold portARead
  split
  · exact ⟨s.via.draws, rfl⟩
  · exact ⟨_, rfl⟩

/-- Settles O49: one clause of the model's read for each register. -/
theorem viaReads : Obligations.ViaReads := by
  intro s a n hvia hn
  have reg {r : ViaReg} (hr : n = r.index) : viaReg a = r := viaReg_of_mod (hn.trans hr)
  simp only [read8_via hvia]
  refine ⟨fun h => ?portB, fun h => ?portA, fun h => ?_, fun h => ?_, fun h => ?_, fun h => ?_, fun h => ?_,
    fun h => ?_, fun h => ?_, fun h => ?_, fun h => ?_, fun h => ?_, fun h => ?_, fun h => ?flags, fun h => ?enables,
    fun h => ?_⟩
  case portB =>
    simp only [viaRead, reg (r := .portB) h]
    exact ⟨_, _, rfl, portPins_output _ _ _⟩
  case portA =>
    obtain ⟨k, left⟩ := portARead_eq s
    simp only [viaRead, reg (r := .portA) h, left]
    refine ⟨_, k, rfl, portPins_output _ _ _, fun hm => ?_⟩
    rw [portPins_input, portAInput, if_pos hm]
  case flags =>
    simp only [viaRead, reg (r := .interruptFlag) h, ofBool_append, Via.irq, bne_iff_ne, ne_eq, ite_not]
  case enables =>
    simp only [viaRead, reg (r := .interruptEnable) h]
    exact congrArg (fun v => EStateM.Result.ok v s) (ofBool_append true s.via.ier)
  · simp only [viaRead, reg (r := .ddrb) h]
  · simp only [viaRead, reg (r := .ddra) h]
  · simp only [viaRead, reg (r := .t1CounterLow) h]; rfl
  · simp only [viaRead, reg (r := .t1CounterHigh) h]
  · simp only [viaRead, reg (r := .t1LatchLow) h]
  · simp only [viaRead, reg (r := .t1LatchHigh) h]
  · simp only [viaRead, reg (r := .t2Low) h]; rfl
  · simp only [viaRead, reg (r := .t2High) h]
  · simp only [viaRead, reg (r := .shift) h]
  · simp only [viaRead, reg (r := .auxControl) h]
  · simp only [viaRead, reg (r := .peripheralControl) h]
  · simp only [viaRead, reg (r := .unlisted) h]

/-! ## Writes of the data registers -/

/-- The MUX select of Port B, bits 2 and 1 as a number (R443). -/
theorem muxSelect_eq (x : Byte) : x.toNat / 2 % 4 = 2 * (x.getLsbD 2).toNat + (x.getLsbD 1).toNat := by
  rw [getLsbD_eq_decide, getLsbD_eq_decide]
  by_cases h2 : x.toNat / 4 % 2 = 1 <;> by_cases h1 : x.toNat / 2 % 2 = 1 <;>
    simp only [Nat.reducePow, h2, h1, decide_true, decide_false, Bool.toNat_true, Bool.toNat_false] <;> omega

theorem muxSelect_bits {x : Byte} {b2 b1 : Bool} (h : x.toNat / 2 % 4 = 2 * b2.toNat + b1.toNat) :
    x.getLsbD 2 = b2 ∧ x.getLsbD 1 = b1 := by
  rw [muxSelect_eq] at h
  revert h
  cases x.getLsbD 2 <;> cases x.getLsbD 1 <;> cases b2 <;> cases b1 <;> decide

theorem routed_routeDac (v : Via) : Routed v v.routeDac := by
  refine ⟨fun h0 => if_pos h0, fun h0 h => ?_, fun h0 h => ?_, fun h0 h => ?_, fun h0 h => ?_⟩
  · obtain ⟨h2, h1⟩ := muxSelect_bits (b2 := false) (b1 := false) h
    simp only [Via.routeDac, h0, h2, h1, Bool.false_eq_true, if_false]
  · obtain ⟨h2, h1⟩ := muxSelect_bits (b2 := false) (b1 := true) h
    simp only [Via.routeDac, h0, h2, h1, Bool.false_eq_true, if_false]
  · obtain ⟨h2, h1⟩ := muxSelect_bits (b2 := true) (b1 := false) h
    simp only [Via.routeDac, h0, h2, h1, Bool.false_eq_true, if_false]
  · obtain ⟨h2, h1⟩ := muxSelect_bits (b2 := true) (b1 := true) h
    simp only [Via.routeDac, h0, h2, h1, Bool.false_eq_true, if_false]

/-- Settles O50: one clause of the model's write for each register. -/
theorem viaDataWrites : Obligations.ViaDataWrites := by
  intro s a x n hvia hn
  have reg {r : ViaReg} (hr : n = r.index) : viaReg a = r := viaReg_of_mod (hn.trans hr)
  simp only [write8_via hvia]
  refine ⟨fun h => ?portB, fun h => ?portA, fun h => ?_, fun h => ?_, fun h => ?latchLow, fun h => ?_, fun h => ?_,
    fun h => ?_, fun h => ?_, fun h => ?_, fun h => ?_⟩
  case portB =>
    simp only [viaWrite, reg (r := .portB) h]
    exact ⟨_, rfl, routed_routeDac _⟩
  case portA =>
    simp only [viaWrite, reg (r := .portA) h]
    exact ⟨_, rfl, routed_routeDac _⟩
  case latchLow =>
    obtain h | h := h
    · simp only [viaWrite, reg (r := .t1CounterLow) h]
    · simp only [viaWrite, reg (r := .t1LatchLow) h]
  · simp only [viaWrite, reg (r := .ddrb) h]
  · simp only [viaWrite, reg (r := .ddra) h]
  · simp only [viaWrite, reg (r := .t1CounterHigh) h]; rfl
  · simp only [viaWrite, reg (r := .t1LatchHigh) h]; rfl
  · simp only [viaWrite, reg (r := .t2Low) h]
  · simp only [viaWrite, reg (r := .t2High) h]; rfl
  · simp only [viaWrite, reg (r := .shift) h]
  · simp only [viaWrite, reg (r := .unlisted) h]

/-! ## Writes of the control registers (R449, R450) -/

theorem acrSupported_eq (x : Byte) : acrSupported x = decide (x.toNat / 32 % 4 = 0) := by
  have bits : x &&& 0x60 = 0 ↔ x.getLsbD 5 = false ∧ x.getLsbD 6 = false := by
    refine ⟨fun h => ⟨?_, ?_⟩, fun ⟨h5, h6⟩ => ?_⟩
    · simpa using congrArg (BitVec.getLsbD · 5) h
    · simpa using congrArg (BitVec.getLsbD · 6) h
    · refine BitVec.eq_of_getLsbD_eq fun i hi => ?_
      rw [BitVec.getLsbD_and]
      obtain rfl | rfl | outside : i = 5 ∨ i = 6 ∨ i ≠ 5 ∧ i ≠ 6 := by omega
      · rw [h5]; rfl
      · rw [h6]; rfl
      · have mask : ∀ j < 8, j ≠ 5 ∧ j ≠ 6 → (0x60 : Byte).getLsbD j = false := by decide
        rw [mask i hi outside, Bool.and_false]
        exact BitVec.getLsbD_zero.symm
  rw [acrSupported, beq_eq_decide, decide_eq_decide, bits, getLsbD_eq_decide, getLsbD_eq_decide]
  simp only [decide_eq_false_iff_not, Nat.reducePow]
  omega

theorem ca2_toNat (x : Byte) : (ca2 x).toNat = x.toNat / 2 % 8 := by
  simp [ca2, BitVec.extractLsb'_toNat, Nat.shiftRight_eq_div_pow]

theorem cb2_toNat (x : Byte) : (cb2 x).toNat = x.toNat / 32 := by
  have := x.isLt
  simp [cb2, BitVec.extractLsb'_toNat, Nat.shiftRight_eq_div_pow]
  omega

theorem ca2_eq_iff (x : Byte) (k : BitVec 3) : ca2 x = k ↔ x.toNat / 2 % 8 = k.toNat := by
  rw [← BitVec.toNat_inj, ca2_toNat]

theorem cb2_eq_iff (x : Byte) (k : BitVec 3) : cb2 x = k ↔ x.toNat / 32 = k.toNat := by
  rw [← BitVec.toNat_inj, cb2_toNat]

theorem pcrSupported_iff (x : Byte) :
    pcrSupported x = true ↔ (x.toNat / 2 % 8 = 6 ∨ x.toNat / 2 % 8 = 7) ∧ 6 ≤ x.toNat / 32 := by
  have := x.isLt
  simp only [pcrSupported, Bool.and_eq_true, Bool.or_eq_true, beq_iff_eq, ca2_eq_iff, cb2_eq_iff, BitVec.reduceToNat]
  omega

theorem Via.writePcr_eq (v : Via) (x : Byte) : v.writePcr x = { v with
    pcr := x
    zeroActive := decide (x.toNat / 2 % 8 = 6)
    blank := decide (x.toNat / 32 = 6)
    posX := if x.toNat / 2 % 8 = 6 then 0 else v.posX
    posY := if x.toNat / 2 % 8 = 6 then 0 else v.posY
    lines := if x.toNat / 2 % 8 = 6 then [] else v.lines } := by
  have zero : (ca2 x == 0b110) = decide (x.toNat / 2 % 8 = 6) := by
    rw [beq_eq_decide]
    exact decide_eq_decide.mpr (ca2_eq_iff x _)
  have blank : (cb2 x == 0b110) = decide (x.toNat / 32 = 6) := by
    rw [beq_eq_decide]
    exact decide_eq_decide.mpr (cb2_eq_iff x _)
  have zeroIff : ca2 x = 0b110 ↔ x.toNat / 2 % 8 = 6 := ca2_eq_iff x _
  simp only [Via.writePcr, zero, blank, zeroIff]
  split <;> rfl

/-- Settles O51: a write of ACR or PCR is a check of the value, then the write. -/
theorem viaControlWrites : Obligations.ViaControlWrites := by
  intro s a x hvia
  simp only [write8_via hvia]
  refine ⟨fun h => ?acr, fun h hca2 hcb2 => ?pcr, fun h hbad => ?badPcr⟩
  case acr =>
    simp only [viaWrite, viaReg_of_mod (r := .auxControl) h, acrSupported_eq, decide_eq_true_eq]
  case pcr =>
    have ok := (pcrSupported_iff x).mpr ⟨hca2, hcb2⟩
    simp only [viaWrite, viaReg_of_mod (r := .peripheralControl) h, ok, if_true, Via.writePcr_eq]
  case badPcr =>
    have bad : ¬pcrSupported x = true := by rw [pcrSupported_iff]; omega
    simp only [viaWrite, viaReg_of_mod (r := .peripheralControl) h, if_neg bad]

/-! ## Writes of the flags and the enables (R451, R486) -/

theorem getLsbD_ifrAfter (ifr : BitVec 7) (x : Byte) {k : Nat} (hk : k < 7) :
    (ifrAfter ifr x).getLsbD k = (ifr.getLsbD k && !x.getLsbD k) := by
  simp [ifrAfter, hk]

theorem getLsbD_ierAfter (ier : BitVec 7) (x : Byte) {k : Nat} (hk : k < 7) :
    (ierAfter ier x).getLsbD k = if x.getLsbD k then x.getLsbD 7 else ier.getLsbD k := by
  unfold ierAfter
  cases h7 : x.getLsbD 7 <;> cases hx : x.getLsbD k <;> simp [hk, hx]

/-- Settles O52: the statement's bits are those of the value the model would write. -/
theorem viaFlagAndEnableWrites : Obligations.ViaFlagAndEnableWrites := by
  intro s a x n new hvia hn hnew
  simp only [write8_via hvia]
  obtain ⟨rfl, frame, bits⟩ | ⟨rfl, frame, bits⟩ := hnew
  · have after : new.ifr = ifrAfter s.via.ifr x :=
      BitVec.eq_of_getLsbD_eq fun k hk => (bits k hk).trans (getLsbD_ifrAfter _ x hk).symm
    have same : ifrAfter s.via.ifr x = s.via.ifr ↔ new = s.via :=
      ⟨fun h => by rw [frame, after, h], fun h => by rw [← after, h]⟩
    simp only [viaWrite, viaReg_of_mod (r := .interruptFlag) hn, ifrWrite]
    refine ⟨fun h => by rw [h], fun h => by rw [h, frame, after], fun h hs => ?_, fun h hs => ?_⟩
    · rw [h]; exact if_pos (same.mpr hs)
    · rw [h]; exact if_neg (mt same.mp hs)
  · have after : new.ier = ierAfter s.via.ier x :=
      BitVec.eq_of_getLsbD_eq fun k hk => (bits k hk).trans (getLsbD_ierAfter _ x hk).symm
    have same : ierAfter s.via.ier x = s.via.ier ↔ new = s.via :=
      ⟨fun h => by rw [frame, after, h], fun h => by rw [← after, h]⟩
    simp only [viaWrite, viaReg_of_mod (r := .interruptEnable) hn, ierWrite]
    refine ⟨fun h => by rw [h], fun h => by rw [h, frame, after], fun h hs => ?_, fun h hs => ?_⟩
    · rw [h]; exact if_pos (same.mpr hs)
    · rw [h]; exact if_neg (mt same.mp hs)

end Sys2Proof.Machine

/-!
O53 and O54, the VIA's update after an instruction (spec/60_exceptions.md R446 to R454, R485, R487). The timers and the
integrator touch different fields. A list of updates is followed one update at a time: what the timers did over some
cycles composes, the beam's inputs stay, and the ramp stays on as long as Timer1 has not expired.
-/
namespace Sys2Proof.Machine

/-! ## The timers (R446, R448) -/

theorem Via.timer1_eq (n : Nat) (v : Via) : v.timer1 n = { v with
    t1c := v.t1c - BitVec.ofNat 16 n
    ifr := if v.t1Armed && decide (v.t1c.toNat < n) then v.ifr ||| ifrT1 else v.ifr
    t1Armed := v.t1Armed && decide (n ≤ v.t1c.toNat)
    t1Pb7 := v.t1Pb7 || (v.t1Armed && decide (v.t1c.toNat < n)) } := by
  unfold Via.timer1
  cases ha : v.t1Armed
  · simp
  · by_cases hn : v.t1c.toNat < n
    · simp [hn, Nat.not_le.mpr hn]
    · simp [hn, Nat.not_lt.mp hn]

theorem Via.timer2_eq (n : Nat) (v : Via) : v.timer2 n = { v with
    t2c := v.t2c - BitVec.ofNat 16 n
    ifr := if v.t2Armed && decide (v.t2c.toNat < n) then v.ifr ||| ifrT2 else v.ifr
    t2Armed := v.t2Armed && decide (n ≤ v.t2c.toNat) } := by
  unfold Via.timer2
  cases ha : v.t2Armed
  · simp
  · by_cases hn : v.t2c.toNat < n
    · simp [hn, Nat.not_le.mpr hn]
    · simp [hn, Nat.not_lt.mp hn]

/-- The integrator writes the position and the line buffer alone. -/
theorem Via.integrate_frame (k : Rat) (n : Nat) (on : Bool) (v : Via) :
    ∃ x y l, v.integrate k n on = { v with posX := x, posY := y, lines := l } := by
  unfold Via.integrate
  split_ifs
  · exact ⟨0, 0, v.lines, rfl⟩
  · exact ⟨_, _, _, rfl⟩
  · exact ⟨_, _, v.lines, rfl⟩
  · exact ⟨v.posX, v.posY, v.lines, rfl⟩

/-- What the timers did over `n` cycles, from `v` to `w`. -/
structure TimersRan (n : Nat) (v w : Via) : Prop where
  t1c : w.t1c = v.t1c - BitVec.ofNat 16 n
  t2c : w.t2c = v.t2c - BitVec.ofNat 16 n
  t1Armed : w.t1Armed = (v.t1Armed && decide (n ≤ v.t1c.toNat))
  t2Armed : w.t2Armed = (v.t2Armed && decide (n ≤ v.t2c.toNat))
  t1Pb7 : w.t1Pb7 = (v.t1Pb7 || (v.t1Armed && decide (v.t1c.toNat < n)))
  flag1 : w.ifr.getLsbD 6 = (v.ifr.getLsbD 6 || (v.t1Armed && decide (v.t1c.toNat < n)))
  flag2 : w.ifr.getLsbD 5 = (v.ifr.getLsbD 5 || (v.t2Armed && decide (v.t2c.toNat < n)))
  others : ∀ j, j < 5 → w.ifr.getLsbD j = v.ifr.getLsbD j

theorem TimersRan.refl (v : Via) : TimersRan 0 v v := by
  constructor <;> simp

/-- A flag bit after an expiry. -/
theorem getLsbD_flagged (f g : BitVec 7) (e : Bool) (j : Nat) :
    (if e then f ||| g else f).getLsbD j = (f.getLsbD j || (e && g.getLsbD j)) := by
  cases e <;> simp

theorem timersRan_update (k : Rat) (n : Nat) (v : Via) : TimersRan n v (v.update k n) := by
  obtain ⟨x, y, l, e⟩ := Via.integrate_frame k n v.rampOn ((v.timer1 n).timer2 n)
  have bits (j : Nat) : (v.update k n).ifr.getLsbD j = (v.ifr.getLsbD j ||
      (v.t1Armed && decide (v.t1c.toNat < n) && ifrT1.getLsbD j) ||
      (v.t2Armed && decide (v.t2c.toNat < n) && ifrT2.getLsbD j)) := by
    rw [Via.update, e, Via.timer2_eq, Via.timer1_eq]
    simp only [getLsbD_flagged]
  constructor
  case flag1 =>
    have t1 : ifrT1.getLsbD 6 = true := rfl
    have t2 : ifrT2.getLsbD 6 = false := rfl
    rw [bits, t1, t2, Bool.and_true, Bool.and_false, Bool.or_false]
  case flag2 =>
    have t1 : ifrT1.getLsbD 5 = false := rfl
    have t2 : ifrT2.getLsbD 5 = true := rfl
    rw [bits, t1, t2, Bool.and_true, Bool.and_false, Bool.or_false]
  case others =>
    intro j hj
    obtain ⟨t1, t2⟩ : ifrT1.getLsbD j = false ∧ ifrT2.getLsbD j = false := by interval_cases j <;> decide
    rw [bits, t1, t2, Bool.and_false, Bool.and_false, Bool.or_false, Bool.or_false]
  all_goals rw [Via.update, e, Via.timer2_eq, Via.timer1_eq]

/-- An unexpired counter has gone down by the cycles, without wrapping. -/
theorem counter_toNat {c : Word} {m : Nat} (h : m ≤ c.toNat) : (c - BitVec.ofNat 16 m).toNat = c.toNat - m := by
  have := c.isLt
  rw [BitVec.toNat_sub, BitVec.toNat_ofNat]
  omega

theorem counter_sub (c : Word) (m n : Nat) :
    c - BitVec.ofNat 16 m - BitVec.ofNat 16 n = c - BitVec.ofNat 16 (m + n) := by
  rw [BitVec.sub_sub, BitVec.ofNat_add]

theorem armed_trans (a : Bool) (c : Word) (m n : Nat) :
    (a && decide (m ≤ c.toNat) && decide (n ≤ (c - BitVec.ofNat 16 m).toNat)) =
      (a && decide (m + n ≤ c.toNat)) := by
  by_cases hm : m ≤ c.toNat
  · rw [counter_toNat hm, decide_eq_true hm, Bool.and_true]
    congr 2
    simp only [eq_iff_iff]
    omega
  · have both : ¬m + n ≤ c.toNat := by omega
    rw [decide_eq_false hm, decide_eq_false both, Bool.and_false, Bool.false_and]

theorem expired_trans (a : Bool) (c : Word) (m n : Nat) :
    ((a && decide (c.toNat < m)) || (a && decide (m ≤ c.toNat) && decide ((c - BitVec.ofNat 16 m).toNat < n))) =
      (a && decide (c.toNat < m + n)) := by
  cases a
  · rfl
  by_cases hm : m ≤ c.toNat
  · rw [counter_toNat hm, decide_eq_true hm, decide_eq_false (Nat.not_lt.mpr hm)]
    simp only [Bool.true_and, Bool.false_or, decide_eq_decide]
    omega
  · rw [decide_eq_true (Nat.not_le.mp hm), decide_eq_true (show c.toNat < m + n by omega)]
    rfl

theorem TimersRan.trans {m n : Nat} {u v w : Via} (h1 : TimersRan m u v) (h2 : TimersRan n v w) :
    TimersRan (m + n) u w where
  t1c := by rw [h2.t1c, h1.t1c, counter_sub]
  t2c := by rw [h2.t2c, h1.t2c, counter_sub]
  t1Armed := by rw [h2.t1Armed, h1.t1Armed, h1.t1c, armed_trans]
  t2Armed := by rw [h2.t2Armed, h1.t2Armed, h1.t2c, armed_trans]
  t1Pb7 := by rw [h2.t1Pb7, h1.t1Pb7, h1.t1Armed, h1.t1c, Bool.or_assoc, expired_trans]
  flag1 := by rw [h2.flag1, h1.flag1, h1.t1Armed, h1.t1c, Bool.or_assoc, expired_trans]
  flag2 := by rw [h2.flag2, h1.flag2, h1.t2Armed, h1.t2c, Bool.or_assoc, expired_trans]
  others j hj := (h2.others j hj).trans (h1.others j hj)

/-- The updates of a list of cycle counts, one after another. -/
def Via.updates (k : Rat) (v : Via) (ns : List Nat) : Via := ns.foldl (fun v n => v.update k n) v

theorem Via.updates_append (k : Rat) (v : Via) (ms ns : List Nat) :
    v.updates k (ms ++ ns) = (v.updates k ms).updates k ns := List.foldl_append

theorem timersRan_updates (k : Rat) (v : Via) (ns : List Nat) : TimersRan ns.sum v (v.updates k ns) := by
  induction ns generalizing v with
  | nil => exact TimersRan.refl v
  | cons n ns ih => rw [List.sum_cons]; exact (timersRan_update k n v).trans (ih (v.update k n))

/-- Settles O53: what the timers did over each update composes to what they did over the list. -/
theorem timersExpireOnce : Obligations.TimersExpireOnce := by
  rintro k v w ns rfl
  obtain ⟨t1c, t2c, t1Armed, t2Armed, t1Pb7, flag1, flag2, others⟩ := timersRan_updates k v ns
  exact ⟨t1c, t2c, t1Armed, t2Armed, t1Pb7, flag1, flag2, others⟩

/-! ## One update of the beam (R452, R453) -/

/-- What the integrator looks at beside the position and Timer1. -/
structure SameInputs (v w : Via) : Prop where
  zeroActive : w.zeroActive = v.zeroActive
  acr : w.acr = v.acr
  orb : w.orb = v.orb
  vx : w.vx = v.vx
  vy : w.vy = v.vy
  offset : w.offset = v.offset
  brightness : w.brightness = v.brightness
  blank : w.blank = v.blank

theorem SameInputs.lit {v w : Via} (h : SameInputs v w) : w.lit = v.lit := by
  rw [Via.lit, Via.lit, h.blank, h.brightness]

theorem SameInputs.trans {u v w : Via} (h1 : SameInputs u v) (h2 : SameInputs v w) : SameInputs u w :=
  ⟨h2.zeroActive.trans h1.zeroActive, h2.acr.trans h1.acr, h2.orb.trans h1.orb, h2.vx.trans h1.vx, h2.vy.trans h1.vy,
    h2.offset.trans h1.offset, h2.brightness.trans h1.brightness, h2.blank.trans h1.blank⟩

theorem sameInputs_update (k : Rat) (n : Nat) (v : Via) : SameInputs v (v.update k n) := by
  obtain ⟨x, y, l, e⟩ := Via.integrate_frame k n v.rampOn ((v.timer1 n).timer2 n)
  rw [Via.update, e, Via.timer2_eq, Via.timer1_eq]
  constructor <;> rfl

theorem sameInputs_updates (k : Rat) (v : Via) (ns : List Nat) : SameInputs v (v.updates k ns) := by
  induction ns generalizing v with
  | nil => constructor <;> rfl
  | cons n ns ih => exact (sameInputs_update k n v).trans (ih (v.update k n))

/-- The beam stands where it stood and nothing is drawn. -/
def Still (v w : Via) : Prop := w.posX = v.posX ∧ w.posY = v.posY ∧ w.lines = v.lines

theorem Via.integrate_on (k : Rat) (n : Nat) {v : Via} (hz : v.zeroActive = false) : v.integrate k n true = { v with
    posX := (v.moved k n).x
    posY := (v.moved k n).y
    lines := v.lines ++ if v.lit then [⟨⟨v.posX, v.posY⟩, v.moved k n, v.brightness⟩] else [] } := by
  cases hl : v.lit <;> simp [Via.integrate, hz, hl]

section Update

variable {v : Via} (k : Rat) (n : Nat)

theorem update_of_zero (h : v.zeroActive = true) :
    (v.update k n).posX = 0 ∧ (v.update k n).posY = 0 ∧ (v.update k n).lines = v.lines := by
  rw [Via.update, Via.timer2_eq, Via.timer1_eq, Via.integrate, if_pos h]
  exact ⟨rfl, rfl, rfl⟩

theorem update_of_rampOff (hz : v.zeroActive = false) (hr : v.rampOn = false) : Still v (v.update k n) := by
  rw [Via.update, hr, Via.timer2_eq, Via.timer1_eq, Via.integrate, if_neg (by simp [hz]), if_neg (by decide)]
  exact ⟨rfl, rfl, rfl⟩

/-- With the ramp on the beam moves, and what it draws is the segment it moved along. -/
theorem update_of_rampOn (hz : v.zeroActive = false) (hr : v.rampOn = true) : MovedBy k v (v.update k n) n ∧
    (v.update k n).lines = v.lines ++ if v.lit then
      [⟨⟨v.posX, v.posY⟩, ⟨(v.update k n).posX, (v.update k n).posY⟩, v.brightness⟩] else [] := by
  rw [Via.update, hr, Via.timer2_eq, Via.timer1_eq, Via.integrate_on k n (by exact hz)]
  exact ⟨⟨rfl, rfl⟩, rfl⟩

theorem rampOn_update (hr : v.rampOn = true) (h : v.acr.getLsbD 7 = false ∨ v.t1Armed = true ∧ n ≤ v.t1c.toNat) :
    (v.update k n).rampOn = true := by
  have inputs := sameInputs_update k n v
  have line : (v.update k n).t1Pb7 = (v.t1Pb7 || (v.t1Armed && decide (v.t1c.toNat < n))) :=
    (timersRan_update k n v).t1Pb7
  unfold Via.rampOn at hr ⊢
  rw [inputs.acr, inputs.orb, line]
  obtain h7 | ⟨-, hn⟩ := h
  · rwa [h7] at hr ⊢
  · rwa [decide_eq_false (Nat.not_lt.mpr hn), Bool.and_false, Bool.or_false]

end Update

/-! ## Many updates of the beam -/

/-- The ramp, once on, stays on through the next `n` cycles: Timer1 does not gate it, or runs longer. -/
def Via.rampLasts (v : Via) (n : Nat) : Prop := v.acr.getLsbD 7 = false ∨ v.t1Armed = true ∧ n ≤ v.t1c.toNat

theorem rampLasts_update {v : Via} {n m : Nat} (k : Rat) (h : v.rampLasts (n + m)) : (v.update k n).rampLasts m := by
  have timers := timersRan_update k n v
  obtain h7 | ⟨armed, hn⟩ := h
  · exact .inl ((congrArg (BitVec.getLsbD · 7) (sameInputs_update k n v).acr).trans h7)
  · refine .inr ⟨?_, ?_⟩
    · rw [timers.t1Armed, armed, decide_eq_true (by omega)]; rfl
    · rw [timers.t1c, counter_toNat (by omega)]; omega

theorem Via.rampLasts.mono {v : Via} {n m : Nat} (h : v.rampLasts n) (hm : m ≤ n) : v.rampLasts m :=
  h.imp_right fun ⟨armed, hn⟩ => ⟨armed, hm.trans hn⟩

theorem MovedBy.trans {k : Rat} {u v w : Via} {m n : Nat} (h1 : MovedBy k u v m) (h2 : MovedBy k v w n)
    (same : SameInputs u v) : MovedBy k u w (m + n) := by
  obtain ⟨x1, y1⟩ := h1
  obtain ⟨x2, y2⟩ := h2
  rw [same.vx, same.offset, x1] at x2
  rw [same.vy, same.offset, y1] at y2
  constructor
  · rw [x2]; push_cast; ring
  · rw [y2]; push_cast; ring

theorem Still.trans {u v w : Via} (h1 : Still u v) (h2 : Still v w) : Still u w := by
  obtain ⟨x1, y1, l1⟩ := h1
  obtain ⟨x2, y2, l2⟩ := h2
  exact ⟨x2.trans x1, y2.trans y1, l2.trans l1⟩

theorem lines_updates_of_zero {v : Via} (k : Rat) (ns : List Nat) (h : v.zeroActive = true) :
    (v.updates k ns).lines = v.lines := by
  induction ns generalizing v with
  | nil => rfl
  | cons n ns ih =>
    obtain ⟨-, -, lines⟩ := update_of_zero k n h
    exact (ih ((sameInputs_update k n v).zeroActive.trans h)).trans lines

/-- Under /ZERO the last update puts the beam at the origin. -/
theorem updates_of_zero {v : Via} (k : Rat) {ns : List Nat} (hne : ns ≠ []) (h : v.zeroActive = true) :
    (v.updates k ns).posX = 0 ∧ (v.updates k ns).posY = 0 ∧ (v.updates k ns).lines = v.lines := by
  have before := (sameInputs_updates k v ns.dropLast).zeroActive.trans h
  obtain ⟨x, y, -⟩ := update_of_zero k (ns.getLast hne) before
  have last : v.updates k ns = (v.updates k ns.dropLast).update k (ns.getLast hne) := by
    conv_lhs => rw [← List.dropLast_concat_getLast hne, Via.updates_append]
    rfl
  exact ⟨by rw [last, x], by rw [last, y], lines_updates_of_zero k ns h⟩

theorem still_updates {v : Via} (k : Rat) (ns : List Nat) (hz : v.zeroActive = false) (hr : v.rampOn = false) :
    Still v (v.updates k ns) := by
  induction ns generalizing v with
  | nil => exact ⟨rfl, rfl, rfl⟩
  | cons n ns ih =>
    have inputs := sameInputs_update k n v
    have off : (v.update k n).rampOn = false := by
      unfold Via.rampOn at hr ⊢
      rw [inputs.acr, inputs.orb, (timersRan_update k n v).t1Pb7]
      cases h7 : v.acr.getLsbD 7 <;> simp_all
    exact (update_of_rampOff k n hz hr).trans (ih (inputs.zeroActive.trans hz) off)

/-- As long as the ramp stays on at the start of each update, the beam moves through all of it. -/
theorem moved_updates {v : Via} (k : Rat) (ns : List Nat) (hz : v.zeroActive = false) (hr : v.rampOn = true)
    (hl : v.rampLasts ns.dropLast.sum) : MovedBy k v (v.updates k ns) ns.sum ∧
      (v.updates k ns).lines.length = v.lines.length + if v.lit then ns.length else 0 := by
  induction ns generalizing v with
  | nil => simp [Via.updates, MovedBy]
  | cons n ns ih =>
    obtain ⟨moved, lines⟩ := update_of_rampOn k n hz hr
    have inputs := sameInputs_update k n v
    have length : (v.update k n).lines.length = v.lines.length + if v.lit then 1 else 0 := by
      rw [lines, List.length_append]
      cases v.lit <;> rfl
    cases ns with
    | nil => exact ⟨moved, length⟩
    | cons m ns =>
      rw [List.dropLast_cons_cons, List.sum_cons] at hl
      obtain ⟨moved', lines'⟩ := ih (inputs.zeroActive.trans hz)
        (rampOn_update k n hr (hl.mono (Nat.le_add_right n _))) (rampLasts_update k hl)
      refine ⟨List.sum_cons (a := n) ▸ moved.trans moved' inputs, ?_⟩
      rw [inputs.lit, length] at lines'
      refine lines'.trans ?_
      cases v.lit
      · rfl
      · simp only [if_true, List.length_cons]
        omega

theorem lines_updates_of_unlit {v : Via} (k : Rat) (ns : List Nat) (hl : v.lit = false) :
    (v.updates k ns).lines = v.lines := by
  induction ns generalizing v with
  | nil => rfl
  | cons n ns ih =>
    have inputs := sameInputs_update k n v
    have lines : (v.update k n).lines = v.lines := by
      cases hz : v.zeroActive with
      | true =>
        obtain ⟨-, -, lines⟩ := update_of_zero k n hz
        exact lines
      | false =>
        cases hr : v.rampOn with
        | false =>
          obtain ⟨-, -, lines⟩ := update_of_rampOff k n hz hr
          exact lines
        | true =>
          obtain ⟨-, lines⟩ := update_of_rampOn k n hz hr
          rw [lines, hl]
          exact List.append_nil _
    exact (ih (inputs.lit.trans hl)).trans lines

/-- Under ACR bit 7 the update in which Timer1 expires is the last with the ramp on. -/
theorem moved_updates_expired {v : Via} (k : Rat) {ms : List Nat} {n : Nat} (rest : List Nat)
    (hz : v.zeroActive = false) (hr : v.rampOn = true) (h7 : v.acr.getLsbD 7 = true) (armed : v.t1Armed = true)
    (hms : ms.sum ≤ v.t1c.toNat) (hn : v.t1c.toNat < ms.sum + n) :
    MovedBy k v (v.updates k (ms ++ n :: rest)) (ms.sum + n) ∧
      (v.updates k (ms ++ n :: rest)).lines.length = v.lines.length + if v.lit then ms.length + 1 else 0 := by
  have sum : (ms ++ [n]).sum = ms.sum + n := by simp
  have split : ms ++ n :: rest = (ms ++ [n]) ++ rest := by simp
  obtain ⟨moved, lines⟩ := moved_updates k (ms ++ [n]) hz hr (.inr ⟨armed, by rwa [List.dropLast_concat]⟩)
  have inputs := sameInputs_updates k v (ms ++ [n])
  have off : (v.updates k (ms ++ [n])).rampOn = false := by
    rw [Via.rampOn, inputs.acr, h7, (timersRan_updates k v (ms ++ [n])).t1Pb7, armed, sum, decide_eq_true hn]
    simp
  obtain ⟨x, y, still⟩ := still_updates k rest (inputs.zeroActive.trans hz) off
  rw [sum] at moved
  rw [split, Via.updates_append, still, lines, List.length_append]
  exact ⟨⟨x.trans moved.1, y.trans moved.2⟩, rfl⟩

theorem lit_iff (v : Via) : v.lit = true ↔ v.blank = false ∧ 0 < v.brightness.toNat := by
  simp [Via.lit]

theorem lit_eq_false {v : Via} (h : v.blank = true ∨ v.brightness = 0) : v.lit = false := by
  obtain h | h := h <;> simp [Via.lit, h]

/-- Settles O54: the beam moves through the updates the ramp lasts for, and stands through the rest. -/
theorem beamIntegration : Obligations.BeamIntegration := by
  rintro k v w ns hne rfl
  refine ⟨updates_of_zero k hne, fun hz hramp => ?_, fun hz hramp => ?_⟩
  · exact still_updates k ns hz (by rw [Via.rampOn, hramp]; rfl)
  have on : v.rampOn = true := by rw [Via.rampOn, hramp]; rfl
  refine ⟨fun lasts => ?_, fun h7 armed ms n rest hns hms hn => ?_, fun dark => ?_, fun n => ?_⟩
  · obtain ⟨moved, lines⟩ := moved_updates k ns hz on lasts
    exact ⟨moved, fun lit => by rw [if_pos ((lit_iff v).mpr lit)] at lines; exact lines⟩
  · subst hns
    obtain ⟨moved, lines⟩ := moved_updates_expired k rest hz on h7 armed hms hn
    exact ⟨moved, fun lit => by rw [if_pos ((lit_iff v).mpr lit)] at lines; exact lines⟩
  · exact lines_updates_of_unlit k ns (lit_eq_false dark)
  · obtain ⟨moved, lines⟩ := update_of_rampOn k n hz on
    exact ⟨moved, fun lit => by rw [if_pos ((lit_iff v).mpr lit)] at lines; exact lines⟩

end Sys2Proof.Machine

/-!
O55 to O57, the PSG (spec/60_exceptions.md R460 to R469, R488 to R491). A bus access changes the register that is
latched and nothing else of the file; a clock moves the divider alone, or ticks: the tones step and one sample is
appended. What many clocks do follows by induction from one.
-/
namespace Sys2Proof.Machine

/-! ## The register file -/

theorem Psg.reg_setReg (p : Psg) (a b : BitVec 4) (v : Byte) :
    (p.setReg a v).reg b = if b = a then v else p.reg b := by
  simp only [Psg.reg, Psg.setReg, Vector.get_eq_getElem, Vector.getElem_set, BitVec.toNat_inj, eq_comm (a := a)]

/-! ## The bus (R461, R462) -/

@[simp] theorem psgEnter_mode (m : PsgMode) (da : Byte) (btn : BitVec 4) (p : Psg) : (psgEnter m da btn p).mode = m := by
  cases m <;> rfl

/-- Entering a mode does not depend on the mode it is entered from. -/
theorem psgEnter_withMode (m m' : PsgMode) (da : Byte) (btn : BitVec 4) (p : Psg) :
    psgEnter m da btn { p with mode := m' } = psgEnter m da btn p := by
  cases m <;> rfl

theorem psgBus_same {bdir bc1 : Bool} {p : Psg} (h : p.mode = psgModeOf bdir bc1) (da : Byte) (btn : BitVec 4) :
    psgBus bdir bc1 da btn p = p := by
  rw [psgBus, if_pos h.symm]

theorem psgBus_change {bdir bc1 : Bool} {p : Psg} (h : p.mode ≠ psgModeOf bdir bc1) (da : Byte) (btn : BitVec 4) :
    psgBus bdir bc1 da btn p = psgEnter (psgModeOf bdir bc1) da btn p := by
  rw [psgBus, if_neg h.symm]

@[simp] theorem psgBus_mode (bdir bc1 : Bool) (da : Byte) (btn : BitVec 4) (p : Psg) :
    (psgBus bdir bc1 da btn p).mode = psgModeOf bdir bc1 := by
  by_cases h : p.mode = psgModeOf bdir bc1
  · rw [psgBus_same h, h]
  · rw [psgBus_change h, psgEnter_mode]

/-- Every access leaves the generators, the divider and the output alone. -/
theorem psgEnter_frame (m : PsgMode) (da : Byte) (btn : BitVec 4) (p : Psg) :
    ∃ regs addr out, psgEnter m da btn p = { p with regs := regs, addr := addr, daOut := out, mode := m } := by
  cases m <;> exact ⟨_, _, _, rfl⟩

theorem psgBus_frame (bdir bc1 : Bool) (da : Byte) (btn : BitVec 4) (p : Psg) :
    ∃ regs addr out mode, psgBus bdir bc1 da btn p = { p with regs := regs, addr := addr, daOut := out, mode := mode } := by
  by_cases h : p.mode = psgModeOf bdir bc1
  · exact ⟨p.regs, p.addr, p.daOut, p.mode, psgBus_same h da btn⟩
  · obtain ⟨regs, addr, out, e⟩ := psgEnter_frame (psgModeOf bdir bc1) da btn p
    exact ⟨regs, addr, out, _, (psgBus_change h da btn).trans e⟩

/-- Inactive acts on the mode alone. -/
theorem psgBus_inactive (da : Byte) (btn : BitVec 4) (p : Psg) :
    psgBus false false da btn p = { p with mode := .inactive } := by
  by_cases h : p.mode = .inactive
  · rw [psgBus_same h, ← h]
  · exact psgBus_change h da btn

/-- Bits 7 to 4 of the button byte read 1, the others are the buttons inverted (R469). -/
theorem getLsbD_buttonByte (btn : BitVec 4) (j : Nat) :
    (buttonByte btn).getLsbD j = (decide (j < 8) && (decide (4 ≤ j) || !btn.getLsbD j)) := by
  have high : (0xF#4).getLsbD (j - 4) = decide (j - 4 < 4) := BitVec.getLsbD_allOnes
  simp only [buttonByte, BitVec.getLsbD_append, BitVec.getLsbD_not, high]
  by_cases h4 : j < 4
  · simp [h4, show j < 8 by omega]
  · simp [h4, show 4 ≤ j by omega, show j - 4 < 4 ↔ j < 8 by omega]

/-- From Inactive the latch takes the low four bits, and changes nothing else but the mode. -/
theorem psgBus_latch (n : Byte) (btn : BitVec 4) {p : Psg} (h : p.mode = .inactive) :
    psgBus true true n btn p = { p with mode := .latchAddress, addr := lowNibble n } :=
  psgBus_change (by rw [h]; exact nofun) n btn

theorem psgBus_write (d : Byte) (btn : BitVec 4) {p : Psg} (h : p.mode ≠ .write) :
    psgBus true false d btn p = { p.setReg p.addr (d &&& psgMask p.addr) with mode := .write } :=
  psgBus_change h d btn

theorem psgBus_read (d : Byte) (btn : BitVec 4) {p : Psg} (h : p.mode ≠ .read) :
    psgBus false true d btn p = { p with mode := .read, daOut := psgReadValue p btn p.addr } :=
  psgBus_change h d btn

/-- Settles O55: from Inactive each access of the protocol is a change of mode, and acts by entering it. -/
theorem psgRegisterProtocol : Obligations.PsgRegisterProtocol := by
  intro p n d btn idle latched written shown
  have idle_eq : idle = { p with mode := .inactive } := psgBus_inactive d btn p
  have latched_eq : latched = { idle with mode := .latchAddress, addr := lowNibble n } :=
    psgBus_latch n btn (by rw [idle_eq])
  have written_eq : written =
      { latched.setReg latched.addr (d &&& psgMask latched.addr) with mode := .write } :=
    psgBus_write d btn (by rw [latched_eq]; exact nofun)
  have shown_eq : shown = { written with mode := .read, daOut := psgReadValue written btn written.addr } :=
    psgBus_read d btn (by rw [written_eq]; exact nofun)
  have addr : latched.addr = lowNibble n := by rw [latched_eq]
  have writtenAddr : written.addr = lowNibble n := by rw [written_eq]; exact addr
  have regs : latched.regs = p.regs := by rw [latched_eq, idle_eq]
  have reg (a : BitVec 4) : written.reg a = if a = lowNibble n then d &&& psgMask (lowNibble n) else p.reg a := by
    have kept : latched.reg a = p.reg a := by simp only [Psg.reg, regs]
    rw [written_eq, addr, ← kept]
    exact Psg.reg_setReg latched (lowNibble n) a _
  have out : shown.daOut = psgReadValue written btn (lowNibble n) := by rw [shown_eq, writtenAddr]
  refine ⟨addr, regs, ?_, fun a ha => ?_, fun hn => ?_, fun hn j => ?_, ?_, fun bdir bc1 da da' btn' => ?_,
    fun bdir bc1 da m hp hm => ?_⟩
  · rw [reg, if_pos rfl]
  · rw [reg, if_neg ha]
  · rw [out, psgReadValue, if_neg hn, reg, if_pos rfl]
  · rw [out, psgReadValue, if_pos hn]
    exact getLsbD_buttonByte btn j
  · rw [shown_eq]
  · exact psgBus_same (psgBus_mode bdir bc1 da btn p) da' btn'
  · rw [psgBus_change hp, psgBus_change (p := { p with mode := m }) hm, psgEnter_withMode]

/-! ## The tone generators (R464, R490) -/

theorem toneTick_reload {period : BitVec 12} {t : Tone} (h : t.cnt.toNat ≤ 1) :
    toneTick period t = ⟨period, !t.out⟩ := if_pos h

theorem toneTick_count {period : BitVec 12} {t : Tone} (h : 1 < t.cnt.toNat) :
    toneTick period t = ⟨t.cnt - 1, t.out⟩ := if_neg (by omega)

/-- While the counter is above the number of ticks, each tick only counts. -/
theorem toneTick_iterate (period : BitVec 12) {k : Nat} {t : Tone} (h : k < t.cnt.toNat) :
    (toneTick period)^[k] t = ⟨t.cnt - BitVec.ofNat 12 k, t.out⟩ := by
  induction k with
  | zero => simp
  | succ k ih =>
    have cnt : (t.cnt - BitVec.ofNat 12 k).toNat = t.cnt.toNat - k := by
      have := t.cnt.isLt
      rw [BitVec.toNat_sub, BitVec.toNat_ofNat]; omega
    rw [Function.iterate_succ_apply', ih (by omega), toneTick_count (by rw [cnt]; omega)]
    simp [BitVec.sub_sub, BitVec.ofNat_add]

/-- The last tick of a period toggles and reloads; the ticks before it only count. -/
theorem toneTick_period (period : BitVec 12) (out : Bool) :
    (toneTick period)^[max 1 period.toNat] ⟨period, out⟩ = ⟨period, !out⟩ := by
  obtain short | long := le_or_gt period.toNat 1
  · rw [max_eq_left short]
    exact toneTick_reload short
  · have last : max 1 period.toNat = period.toNat - 1 + 1 := by omega
    have cnt : (period - BitVec.ofNat 12 (period.toNat - 1)).toNat ≤ 1 := by
      have := period.isLt
      rw [BitVec.toNat_sub, BitVec.toNat_ofNat]; omega
    have counted := toneTick_iterate period (t := ⟨period, out⟩) (show period.toNat - 1 < period.toNat by omega)
    rw [last, Function.iterate_succ_apply', counted]
    exact toneTick_reload cnt

theorem toneTick_iterate_out (period : BitVec 12) (out : Bool) {k : Nat} (h : k < max 1 period.toNat) :
    ((toneTick period)^[k] ⟨period, out⟩).out = out := by
  obtain rfl | hk : k = 0 ∨ k < period.toNat := by omega
  · rfl
  · rw [toneTick_iterate period (t := ⟨period, out⟩) hk]

/-- Settles O56: two periods restore the output; a write of a register is a bus access, which reaches no generator. -/
theorem toneTogglesEveryPeriod : Obligations.ToneTogglesEveryPeriod := by
  intro period other out k t p d btn
  obtain ⟨regs, addr, da, mode, access⟩ := psgBus_frame true false d btn p
  refine ⟨toneTick_iterate_out period out, toneTick_period period out, ?_, by rw [access], by rw [access],
    by rw [access], fun ht => by rw [toneTick_count ht, toneTick_count ht]⟩
  rw [two_mul, Function.iterate_add_apply, toneTick_period, toneTick_period, Bool.not_not]

/-! ## Clocks and samples (R464 to R468, R491) -/

theorem envLevel_bounds (n : Nat) : 0 ≤ envLevel n ∧ envLevel n ≤ 1 :=
  ⟨le_max_left _ _, max_le (by norm_num) (min_le_left _ _)⟩

theorem lowNibble_rat (v : Byte) : ((lowNibble v).toNat : Rat) / 16 = ((v.toNat % 16 : Nat) : Rat) / 16 := by
  rw [lowNibble_toNat]

theorem channelTerm_eq (mixerBit out : Bool) (amp : Byte) (n : Nat) :
    channelTerm mixerBit out amp n = soundOf mixerBit out amp (envLevel n) := by
  simp only [channelTerm, soundOf, amplitude, lowNibble_rat]
  cases mixerBit <;> cases out <;> rfl

theorem soundOf_bounds (mixerBit out : Bool) (amp : Byte) {e : Rat} (h : 0 ≤ e ∧ e ≤ 1) :
    0 ≤ soundOf mixerBit out amp e ∧ soundOf mixerBit out amp e ≤ 1 := by
  have nibble : ((amp.toNat % 16 : Nat) : Rat) ≤ 16 := by exact_mod_cast (Nat.mod_lt _ (by decide)).le
  have nonneg : (0 : Rat) ≤ ((amp.toNat % 16 : Nat) : Rat) := Nat.cast_nonneg _
  unfold soundOf
  split_ifs
  · exact h
  · constructor <;> linarith
  · norm_num

theorem psgSample_bounds (p : Psg) : 0 ≤ psgSample p ∧ psgSample p ≤ 1 / 6 := by
  simp only [psgSample, channelTerm_eq]
  obtain ⟨a0, a1⟩ := soundOf_bounds ((p.reg 7).getLsbD 0) p.toneA.out (p.reg 8) (envLevel_bounds p.draws)
  obtain ⟨b0, b1⟩ := soundOf_bounds ((p.reg 7).getLsbD 1) p.toneB.out (p.reg 9) (envLevel_bounds (p.draws + 1))
  obtain ⟨c0, c1⟩ := soundOf_bounds ((p.reg 7).getLsbD 2) p.toneC.out (p.reg 10) (envLevel_bounds (p.draws + 2))
  constructor <;> linarith

theorem tonePeriod_toNat (low high : Byte) :
    (tonePeriod low high).toNat = 256 * (high.toNat % 16) + low.toNat := by
  rw [tonePeriod, BitVec.toNat_append, ← Nat.shiftLeft_add_eq_or_of_lt low.isLt, lowNibble_toNat, Nat.shiftLeft_eq,
    Nat.mul_comm]

theorem toneSteps_toneTick (low high : Byte) (t : Tone) : ToneSteps low high t (toneTick (tonePeriod low high) t) := by
  refine ⟨fun h => ?_, fun h => ?_⟩
  · rw [toneTick_reload h]
    exact ⟨tonePeriod_toNat low high, rfl⟩
  · rw [toneTick_count h]
    refine ⟨?_, rfl⟩
    have := t.cnt.isLt
    rw [BitVec.toNat_sub]
    simp
    omega

/-- What stays of the PSG over its clocks: the file, the latched address, the mode and the driven value. -/
def SamePort (p q : Psg) : Prop := q.regs = p.regs ∧ q.addr = p.addr ∧ q.mode = p.mode ∧ q.daOut = p.daOut

/-- The PSG went from `p` to `q` by `n` clocks: the divider, the new samples and what stays. -/
def Clocked (n : Nat) (p q : Psg) : Prop :=
  q.div = (p.div + n) % 16 ∧
  (∃ new, q.samples = p.samples ++ new ∧ new.length = (p.div + n) / 16 ∧ ∀ x ∈ new, 0 ≤ x ∧ x ≤ 1 / 6) ∧ SamePort p q

theorem psgClock_count {p : Psg} (h : p.div < 15) : psgClock p = { p with div := p.div + 1 } := if_neg (by omega)

theorem psgClock_tick {p : Psg} (h : p.div = 15) : psgClock p = psgTick { p with div := 0 } := if_pos (by omega)

theorem clocked_psgClock {p : Psg} (h : p.div < 16) : Clocked 1 p (psgClock p) := by
  obtain count | tick : p.div < 15 ∨ p.div = 15 := by omega
  · rw [psgClock_count count]
    exact ⟨by dsimp only; omega, ⟨[], by simp, by simp; omega, nofun⟩, rfl, rfl, rfl, rfl⟩
  · rw [psgClock_tick tick]
    refine ⟨by rw [tick]; rfl, ⟨[_], rfl, by rw [tick]; rfl, fun x hx => ?_⟩, rfl, rfl, rfl, rfl⟩
    rw [List.mem_singleton.mp hx]
    exact psgSample_bounds _

theorem Clocked.trans {m n : Nat} {p q r : Psg} (h1 : Clocked m p q) (h2 : Clocked n q r) :
    Clocked (m + n) p r := by
  obtain ⟨div1, ⟨new1, samples1, length1, bounds1⟩, regs1, addr1, mode1, out1⟩ := h1
  obtain ⟨div2, ⟨new2, samples2, length2, bounds2⟩, regs2, addr2, mode2, out2⟩ := h2
  refine ⟨by omega, ⟨new1 ++ new2, by rw [samples2, samples1, List.append_assoc], ?_, ?_⟩,
    regs2.trans regs1, addr2.trans addr1, mode2.trans mode1, out2.trans out1⟩
  · rw [List.length_append]; omega
  · exact List.forall_mem_append.mpr ⟨bounds1, bounds2⟩

theorem clocked_psgUpdate (n : Nat) {p : Psg} (h : p.div < 16) : Clocked n p (psgUpdate n p) := by
  induction n generalizing p with
  | zero => exact ⟨(Nat.mod_eq_of_lt h).symm, ⟨[], by simp [psgUpdate], (Nat.div_eq_of_lt h).symm, nofun⟩, rfl, rfl, rfl, rfl⟩
  | succ n ih =>
    have first := clocked_psgClock h
    have rest := ih (p := psgClock p) (first.1 ▸ Nat.mod_lt _ (by decide))
    have both := first.trans rest
    rw [Nat.add_comm] at both
    exact both

/-- Settles O57: many clocks by induction from one, and the clock that ticks as it is written. -/
theorem sampleEverySixteenCycles : Obligations.SampleEverySixteenCycles := by
  intro p n h
  obtain ⟨div, samples, regs, addr, mode, out⟩ := clocked_psgUpdate n h
  refine ⟨div, samples, regs, addr, mode, out, psgClock_count, fun tick => ?_⟩
  refine ⟨_, envLevel p.draws, envLevel (p.draws + 1), envLevel (p.draws + 2), psgClock_tick tick,
    toneSteps_toneTick _ _ _, toneSteps_toneTick _ _ _, toneSteps_toneTick _ _ _, envLevel_bounds _, envLevel_bounds _,
    envLevel_bounds _, ?_⟩
  simp only [← channelTerm_eq]
  rfl

end Sys2Proof.Machine

/-!
O45, O7, O8 and O13, what a step can do (spec/60_exceptions.md R470, R480, R492). One table over the instructions says
which of the register updates, bus reads, bus writes and waits each is made of; a property that survives those holds of
every state the instruction ends in, whether it answers or faults. The frame of an instruction, the fault record of a
step, the cycles it spends and the invariant of O10 are instances.
-/
namespace Sys2Proof.Machine

/-! ## The states an outcome leaves -/

/-- The property holds of the next state, or of the state the fault was raised in, which the record names (R480).
There is no refusal. -/
def Ends (P : State → Prop) : Host.Outcome State Fault Refusal → Prop
  | .next t => P t
  | .fault (.fatal r t) => ∃ k u, P u ∧ r = ⟨k, u.pc0⟩ ∧ t = u.withFault (some r)
  | .refused _ => False

section Ends

variable {P : State → Prop} {s t : State}

theorem Ends.next {o : Host.Outcome State Fault Refusal} (h : Ends P o) (ho : o = .next t) : P t := by
  rw [ho] at h; exact h

theorem Ends.fault {o : Host.Outcome State Fault Refusal} {r : FaultRecord} (h : Ends P o)
    (ho : o = .fault (.fatal r t)) : ∃ k u, P u ∧ r = ⟨k, u.pc0⟩ ∧ t = u.withFault (some r) := by
  rw [ho] at h; exact h

theorem ends_stop (k : FaultKind) (hs : P s) : Ends P (stop k s) := ⟨k, s, hs, rfl, rfl⟩

theorem ends_finish {m : M Unit} (h : Keeps P m) (hs : P s) : Ends P (finish m s) := by
  cases e : m s with
  | ok _ t => rw [finish_ok e]; exact h.ok hs e
  | error k t => rw [finish_error e]; exact ends_stop k (h.error hs e)

/-- The gate of the extension set runs the body or faults where it stands. -/
theorem ends_gated {tier : Tier} {i : Instr} {body : M Unit}
    (h : tierAllowed s.cfg tier = true → Ends P (finish body s)) (hs : P s) :
    Ends P (finish (gated tier i body) s) := by
  cases hc : tierAllowed s.cfg tier with
  | true => unfold finish; rw [gated_allowed hc]; exact h hc
  | false => rw [finish_error (gated_refused hc)]; exact ends_stop _ hs

end Ends

theorem ends_perform {P : State → Prop} {i : Instr} {body : M Unit} {s : State} (hs : P (start i s)) (h : Keeps P body) :
    Ends P (perform i body s) := ends_finish h hs

theorem ends_performGated {P : State → Prop} {tier : Tier} {i : Instr} {body : M Unit} {s : State}
    (hs : P (start i s)) (h : Keeps P body) : Ends P (performGated tier i body s) :=
  ends_gated (fun _ => ends_finish h hs) hs

/-! ## Properties that survive register updates -/

/-- The property survives the register updates and spent cycles; bus accesses may break it. -/
structure RegStable (P : State → Prop) : Prop where
  set8 : ∀ s r v, P s → P (s.set8 r v)
  set16 : ∀ s r v, P s → P (s.set16 r v)
  cyc : ∀ s n, P s → P (s.withCyc (s.cyc + n))

theorem Stable.readStable {P : State → Prop} (h : Stable P) : ReadStable P := ⟨h.set8, h.set16, h.cyc, h.read⟩

theorem Stable.regStable {P : State → Prop} (h : Stable P) : RegStable P := ⟨h.set8, h.set16, h.cyc⟩

theorem Keeps.and {α : Type} {P Q : State → Prop} {m : M α} (hP : Keeps P m) (hQ : Keeps Q m) :
    Keeps (fun s => P s ∧ Q s) m := by
  rintro s ⟨hp, hq⟩
  cases e : m s with
  | ok _ t => exact ⟨hP.ok hp e, hQ.ok hq e⟩
  | error _ t => exact ⟨hP.error hp e, hQ.error hq e⟩

theorem Stable.and {P Q : State → Prop} (hP : Stable P) (hQ : Stable Q) : Stable fun s => P s ∧ Q s where
  set8 s r v := fun ⟨hp, hq⟩ => ⟨hP.set8 s r v hp, hQ.set8 s r v hq⟩
  set16 s r v := fun ⟨hp, hq⟩ => ⟨hP.set16 s r v hp, hQ.set16 s r v hq⟩
  cyc s n := fun ⟨hp, hq⟩ => ⟨hP.cyc s n hp, hQ.cyc s n hq⟩
  read a := (hP.read a).and (hQ.read a)
  write a v := (hP.write a v).and (hQ.write a v)

theorem stable_cfg (c : Config) : Stable fun s => s.cfg = c :=
  stable_of_updates (fun s r v hs => (s.set8_cfg r v).trans hs) (fun s r v hs => (s.set16_cfg r v).trans hs)
    (fun _ _ hs => hs) (fun _ _ hs => hs) (fun _ _ hs => hs) fun _ _ hs => hs

section RegStable

variable {P : State → Prop} (h : RegStable P)
include h

theorem RegStable.cc (s : State) (v : Byte) (hs : P s) : P (s.withCC v) := h.set8 s .cc v hs

theorem RegStable.pc (s : State) (v : Word) (hs : P s) : P (s.withPC v) := h.set16 s .pc v hs

theorem keeps_modify_cc (f : State → Byte) : Keeps P (modify fun s => s.withCC (f s)) :=
  keeps_modify fun s hs => h.cc s _ hs

theorem keeps_set8_cc (r : Reg8) (f g : State → Byte) :
    Keeps P (modify fun s => (s.set8 r (f s)).withCC (g s)) :=
  keeps_modify fun s hs => h.cc _ _ (h.set8 s r _ hs)

theorem keeps_set16_cc (r : Reg16) (f : State → Word) (g : State → Byte) :
    Keeps P (modify fun s => (s.set16 r (f s)).withCC (g s)) :=
  keeps_modify fun s hs => h.cc _ _ (h.set16 s r _ hs)

theorem keeps_branch_of_regs (p : Cond) (off : Word) : Keeps P (branch p off) :=
  keeps_bind keeps_get fun _ => keeps_ite
    (keeps_bind (keeps_modify fun s hs => h.pc s _ hs) fun _ => keeps_modify fun s hs => h.cyc s _ hs)
    (keeps_pure _)

theorem keeps_exchange (r1 r2 : XReg) : Keeps P (transfer r1 r2 exchange8 exchange16) := by
  cases r1 <;> cases r2
  case r8.r8 => exact keeps_modify fun s hs => h.set8 _ _ _ (h.set8 s _ _ hs)
  case r16.r16 => exact keeps_modify fun s hs => h.set16 _ _ _ (h.set16 s _ _ hs)
  all_goals exact keeps_raise _

theorem keeps_copy (r1 r2 : XReg) : Keeps P (transfer r1 r2 copy8 copy16) := by
  cases r1 <;> cases r2
  case r8.r8 => exact keeps_modify fun s hs => h.set8 s _ _ hs
  case r16.r16 => exact keeps_modify fun s hs => h.set16 s _ _ hs
  all_goals exact keeps_raise _

/-! ### A source operand reads the bus only where it is in memory -/

theorem keeps_alu8_of_regs {m : Src8} (hm : ∀ e, m = .mem e → ReadStable P) (r : Reg8)
    (f : Byte → Byte → Byte → Byte × Byte) : Keeps P (alu8 r f m) := by
  cases m with
  | imm v => exact keeps_set8_cc h r (fun s => (f (s.get8 r) v s.cc).1) fun s => (f (s.get8 r) v s.cc).2
  | mem e => exact readOnly_alu8 r f _ (hm e rfl)

theorem keeps_test8_of_regs {m : Src8} (hm : ∀ e, m = .mem e → ReadStable P) (r : Reg8)
    (f : Byte → Byte → Byte → Byte × Byte) : Keeps P (test8 r f m) := by
  cases m with
  | imm v => exact keeps_modify_cc h fun s => (f (s.get8 r) v s.cc).2
  | mem e => exact readOnly_test8 r f _ (hm e rfl)

theorem keeps_alu16_of_regs {m : Src16} (hm : ∀ e, m = .mem e → ReadStable P) (r : Reg16)
    (f : Word → Word → Byte → Word × Byte) : Keeps P (alu16 r f m) := by
  cases m with
  | imm v => exact keeps_set16_cc h r (fun s => (f (s.get16 r) v s.cc).1) fun s => (f (s.get16 r) v s.cc).2
  | mem e => exact readOnly_alu16 r f _ (hm e rfl)

theorem keeps_test16_of_regs {m : Src16} (hm : ∀ e, m = .mem e → ReadStable P) (r : Reg16)
    (f : Word → Word → Byte → Word × Byte) : Keeps P (test16 r f m) := by
  cases m with
  | imm v => exact keeps_modify_cc h fun s => (f (s.get16 r) v s.cc).2
  | mem e => exact readOnly_test16 r f _ (hm e rfl)

/-- A push of no register stores nothing. -/
theorem keeps_pushRegs_of_empty {p : Stk} {m : Byte} (hm : listBytes m = 0) : Keeps P (pushRegs p m) := by
  have nothing : pushList p m = pure () := by
    funext s
    have empty : listImage p m s = [] := List.eq_nil_of_length_eq_zero ((length_listImage p m s).trans hm)
    rw [pushList_eq_pushAll, empty]
    rfl
  unfold pushRegs
  rw [nothing]
  exact keeps_bind (keeps_pure _) fun _ => keeps_bind keeps_get fun _ => keeps_modify fun s hs => h.cyc s _ hs

end RegStable

/-! ## What an instruction is made of -/

/-- The property survives what the instruction is made of: register updates; bus reads, where it touches memory; bus
writes, where it stores to some address; and the wait, where it is CWAI or SYNC. -/
structure ExecStable (i : Instr) (s : State) (P : State → Prop) : Prop where
  regs : RegStable P
  read : touchesNoMemory i = false → ReadStable P
  write : storedTo i (start i s) ≠ [] → Stable P
  wait : (∃ m, i = .cwai m) ∨ i = .sync → ∀ u w, tierAllowed u.cfg .waiting = true → P u → P (u.withWait w)

section ExecStable

variable {P : State → Prop} {s : State}

/-- A computation that begins with a memory operand stores only where the operand names an address. -/
theorem ends_of_effAddr {e : Ea} {m : M Unit} {as : List Word} (hread : ReadStable P) (hwrite : as ≠ [] → Stable P)
    (hm : ∀ k t, effAddr e s = .error k t → m s = .error k t)
    (has : ∀ ea t, effAddr e s = .ok ea t → as ≠ []) (hkeeps : Stable P → Keeps P m) (hs : P s) :
    Ends P (finish m s) := by
  cases he : effAddr e s with
  | error k t =>
    rw [finish_error (hm k t he)]
    exact ends_stop k ((readOnly_effAddr e hread).error hs he)
  | ok ea t => exact ends_finish (hkeeps (hwrite (has ea t he))) hs

theorem ends_storeAt1 {e : Ea} {m : M Unit} (hread : ReadStable P) (hwrite : storeAt1 e s ≠ [] → Stable P)
    (hm : ∀ k t, effAddr e s = .error k t → m s = .error k t) (hkeeps : Stable P → Keeps P m) (hs : P s) :
    Ends P (finish m s) :=
  ends_of_effAddr hread hwrite hm (fun _ _ he => by rw [storeAt1_of_ok he]; exact List.cons_ne_nil _ _) hkeeps hs

theorem ends_storeAt2 {e : Ea} {m : M Unit} (hread : ReadStable P) (hwrite : storeAt2 e s ≠ [] → Stable P)
    (hm : ∀ k t, effAddr e s = .error k t → m s = .error k t) (hkeeps : Stable P → Keeps P m) (hs : P s) :
    Ends P (finish m s) :=
  ends_of_effAddr hread hwrite hm (fun _ _ he => by rw [storeAt2_of_ok he]; exact List.cons_ne_nil _ _) hkeeps hs

theorem ends_callAt {e : Ea} {m : M Unit} (hread : ReadStable P) (hwrite : callAt e s ≠ [] → Stable P)
    (hm : ∀ k t, effAddr e s = .error k t → m s = .error k t) (hkeeps : Stable P → Keeps P m) (hs : P s) :
    Ends P (finish m s) :=
  ends_of_effAddr hread hwrite hm (fun _ _ he => by rw [callAt_of_ok he]; exact List.cons_ne_nil _ _) hkeeps hs

theorem ends_pushRegs {p : Stk} {m : Byte} {sp : Word} (hregs : RegStable P)
    (hwrite : below sp (listBytes m) ≠ [] → Stable P) (hs : P s) : Ends P (finish (pushRegs p m) s) := by
  cases hn : listBytes m with
  | zero => exact ends_finish (keeps_pushRegs_of_empty hregs hn) hs
  | succ n =>
    rw [hn] at hwrite
    exact ends_finish (keeps_pushRegs (hwrite (List.cons_ne_nil _ _)) p m) hs

theorem keeps_cwai (h : Stable P)
    (hwait : ∀ u w, tierAllowed u.cfg .waiting = true → P u → P (u.withWait w)) {c : Config}
    (hc : tierAllowed c .waiting = true) (m : Byte) :
    Keeps (fun u => P u ∧ u.cfg = c) (do
      modify fun t => t.withCC (t.cc &&& m)
      pushEntire
      modify fun t => t.withWait .cwai) :=
  have both := h.and (stable_cfg c)
  keeps_bind (keeps_modify_cc both.regStable _) fun _ => keeps_bind (keeps_pushEntire both) fun _ =>
    keeps_modify fun u ⟨hu, hcfg⟩ => ⟨hwait u _ (hcfg ▸ hc) hu, hcfg⟩

end ExecStable

theorem Ends.mono {P Q : State → Prop} {o : Host.Outcome State Fault Refusal} (h : Ends P o) (hPQ : ∀ s, P s → Q s) :
    Ends Q o := by
  match o, h with
  | .next t, h => exact hPQ t h
  | .fault (.fatal r t), ⟨k, u, hu, rest⟩ => exact ⟨k, u, hPQ u hu, rest⟩

/-- The table: what each instruction is made of. A property that survives it holds wherever the instruction ends. -/
theorem ends_exec {i : Instr} {s : State} {P : State → Prop} (h : ExecStable i s P) (hs : P (start i s)) :
    Ends P (exec i s) := by
  obtain ⟨regs, read, write, wait⟩ := h
  have written {as : List Word} {sp : Word} {n : Nat} (has : as = below sp (n + 1)) : as ≠ [] :=
    has ▸ List.cons_ne_nil _ _
  unfold exec
  cases i with
  | lda | ldb | adda | addb | adca | adcb | suba | subb | ora | orb | anda | andb =>
    exact ends_perform hs (keeps_alu8_of_regs regs (by rintro e rfl; exact read rfl) _ _)
  | eora | eorb | sbca | sbcb =>
    exact ends_performGated hs (keeps_alu8_of_regs regs (by rintro e rfl; exact read rfl) _ _)
  | ldd | ldx | ldy | ldu | lds | addd | subd =>
    exact ends_perform hs (keeps_alu16_of_regs regs (by rintro e rfl; exact read rfl) _ _)
  | cmpa | cmpb | bita | bitb =>
    exact ends_perform hs (keeps_test8_of_regs regs (by rintro e rfl; exact read rfl) _ _)
  | cmpd | cmpx | cmpy | cmpu | cmps =>
    exact ends_perform hs (keeps_test16_of_regs regs (by rintro e rfl; exact read rfl) _ _)
  | sta | stb =>
    exact ends_storeAt1 (read rfl) write (fun _ _ => M.bind_error) (fun h => keeps_store8 h _ _) hs
  | std | stx | sty | stu | sts =>
    exact ends_storeAt2 (read rfl) write (fun _ _ => M.bind_error) (fun h => keeps_store16 h _ _) hs
  | leax | leay | leau | leas => exact ends_perform hs (readOnly_loadEa _ _ _ (read rfl))
  | neg | inc | dec | asr | lsr | asl | com =>
    exact ends_storeAt1 (read rfl) write (fun _ _ => M.bind_error) (fun h => keeps_modifyMem h _ _) hs
  | rol | ror =>
    exact ends_gated
      (fun _ => ends_storeAt1 (read rfl) write (fun _ _ => M.bind_error) (fun h => keeps_modifyMem h _ _) hs) hs
  | clr =>
    exact ends_storeAt1 (read rfl) write (fun _ _ => M.bind_error)
      (fun h => keeps_bind (keeps_effAddr h _) fun _ => keeps_bind (h.write _ _) fun _ =>
        keeps_modify_cc regs _) hs
  | nega | negb | inca | incb | deca | decb | asra | asrb | lsra | lsrb | asla | aslb | coma | comb | clra | clrb =>
    exact ends_perform hs (keeps_set8_cc regs _ _ _)
  | rola | rolb | rora | rorb | daa | sex => exact ends_performGated hs (keeps_set8_cc regs _ _ _)
  | tst e =>
    exact ends_perform hs (readOnly_bind (readOnly_readOperand8 (.mem e)) (fun _ => readOnly_modify_cc _) (read rfl))
  | tsta | tstb | orcc | andcc => exact ends_perform hs (keeps_modify_cc regs _)
  | mul => exact ends_performGated hs (keeps_set16_cc regs .d _ _)
  | abx => exact ends_performGated hs (keeps_modify fun u hu => regs.set16 u .x _ hu)
  | jmp => exact ends_perform hs (readOnly_bind (readOnly_effAddr _) (fun _ => readOnly_modify_pc _) (read rfl))
  | jsr =>
    exact ends_callAt (read rfl) write (fun _ _ => M.bind_error)
      (fun h => keeps_bind (keeps_effAddr h _) fun _ => keeps_call h _) hs
  | bsr | lbsr => exact ends_perform hs (keeps_bind keeps_get fun _ => keeps_call (write (written rfl)) _)
  | rts => exact ends_perform hs (readOnly_pullIf16 _ _ _ (read rfl))
  | nop => exact ends_perform hs (keeps_pure _)
  | bra | brn | bhi | bls | bcc | bcs | bne | beq | bvc | bvs | bpl | bmi | bge | blt | bgt | ble
  | lbra | lbrn | lbhi | lbls | lbcc | lbcs | lbne | lbeq | lbvc | lbvs | lbpl | lbmi | lbge | lblt
  | lbgt | lble => exact ends_perform hs (keeps_branch_of_regs regs _ _)
  | pshs | pshu => exact ends_pushRegs regs write hs
  | puls | pulu => exact ends_perform hs (readOnly_pullRegs _ _ (read rfl))
  | exg => exact ends_perform hs (keeps_exchange regs _ _)
  | tfr => exact ends_perform hs (keeps_copy regs _ _)
  | swi | swi2 | swi3 =>
    exact ends_performGated hs (keeps_takeException (write (written rfl)) _ _)
  | rti => exact ends_performGated hs (readOnly_returnFromException (read rfl))
  | cwai m =>
    refine ends_gated (fun hc => ?_) hs
    exact (ends_finish (keeps_cwai (write (written rfl)) (wait (.inl ⟨m, rfl⟩)) hc m) ⟨hs, rfl⟩).mono
      fun u ⟨hu, _⟩ => hu
  | sync => exact ends_gated (fun hc => wait (.inr rfl) _ .sync hc hs) hs

/-! ## The frame of the rest of the state (R492) -/

theorem storedTo_of_touchesNoMemory {i : Instr} (h : touchesNoMemory i = true) (s : State) : storedTo i s = [] := by
  cases i with
  | sta | stb | std | stx | sty | stu | sts | clr | neg | inc | dec | asr | lsr | asl | com | rol | ror | jsr | bsr
  | lbsr | pshs | pshu | swi | swi2 | swi3 | cwai => cases h
  | _ => rfl

section Frame

variable {i : Instr} {s t : State} {P : State → Prop}

/-- What every instruction is made of. -/
theorem Stable.execStable (h : Stable P)
    (hwait : ∀ u w, tierAllowed u.cfg .waiting = true → P u → P (u.withWait w)) : ExecStable i s P :=
  ⟨h.regStable, fun _ => h.readStable, fun _ => h, fun _ => hwait⟩

theorem constants_of_exec (h : exec i s = .next t) :
    t.pc0 = s.pc0 ∧ t.fault = s.fault ∧ t.budget = s.budget ∧ t.buttons = s.buttons ∧ t.cfg = s.cfg :=
  (ends_exec ((stable_constants s).execStable fun _ _ _ hu => hu) ⟨rfl, rfl, rfl, rfl, rfl⟩).next h

theorem wait_of_exec (h : exec i s = .next t) (hcwai : ∀ m, i ≠ .cwai m) (hsync : i ≠ .sync) : t.wait = s.wait := by
  have kept : Stable fun u => u.wait = s.wait :=
    stable_of_updates (fun u r v hu => (u.set8_wait r v).trans hu) (fun u r v hu => (u.set16_wait r v).trans hu)
      (fun _ _ hu => hu) (fun _ _ hu => hu) (fun _ _ hu => hu) fun _ _ hu => hu
  have noWait : ¬((∃ m, i = .cwai m) ∨ i = .sync) := by
    rintro (⟨m, hm⟩ | hs)
    exacts [hcwai m hm, hsync hs]
  exact (ends_exec (P := fun u => u.wait = s.wait)
    ⟨kept.regStable, fun _ => kept.readStable, fun _ => kept, fun hw => absurd hw noWait⟩ rfl).next h

theorem devices_of_exec (h : exec i s = .next t) (hi : touchesNoMemory i = true) :
    t.via = s.via ∧ t.psg = s.psg := by
  have regs : RegStable fun u => u.via = s.via ∧ u.psg = s.psg :=
    ⟨fun u r v hu => by simpa using hu, fun u r v hu => by simpa using hu, fun _ _ hu => hu⟩
  exact (ends_exec (P := fun u => u.via = s.via ∧ u.psg = s.psg)
    ⟨regs, fun hr => absurd (hi.symm.trans hr) Bool.noConfusion, fun hw => absurd (storedTo_of_touchesNoMemory hi _) hw,
      fun _ _ _ _ hu => hu⟩ ⟨rfl, rfl⟩).next h

theorem psg_of_exec (h : exec i s = .next t) (hi : storedTo i (start i s) = []) : t.psg = s.psg := by
  have read : ReadStable fun u => u.psg = s.psg :=
    readStable_of_updates (fun u r v hu => (u.set8_psg r v).trans hu) (fun u r v hu => (u.set16_psg r v).trans hu)
      (fun _ _ hu => hu) fun _ _ hu => hu
  exact (ends_exec (P := fun u => u.psg = s.psg)
    ⟨⟨read.set8, read.set16, read.cyc⟩, fun _ => read, fun hw => absurd hi hw, fun _ _ _ _ hu => hu⟩ rfl).next h

end Frame

/-- Settles O45: each clause is a property that survives what the instructions it speaks of are made of. -/
theorem frameOfTheRest : Obligations.FrameOfTheRest := by
  intro i s t h
  obtain ⟨pc0, fault, budget, buttons, cfg⟩ := constants_of_exec h
  exact ⟨pc0, fault, budget, buttons, cfg, wait_of_exec h, devices_of_exec h, psg_of_exec h⟩

/-! ## What a step is made of (R470) -/

/-- The property survives what the first part of a step is made of: instructions, the IRQ entry and waits. -/
structure BodyStable (P : State → Prop) : Prop extends Stable P where
  setCyc : ∀ s n, P s → P (s.withCyc n)
  wake : ∀ s, P s → P (s.withWait .none)
  sleep : ∀ s w, tierAllowed s.cfg .waiting = true → P s → P (s.withWait w)

/-- The property survives the end of a step too: the devices' update, the budget and the poll. -/
structure StepStable (P : State → Prop) : Prop extends BodyStable P where
  advance : ∀ s, P s → P (advanceDevices s)
  spend : ∀ s q, P s → P (s.withBudget q)

theorem keeps_poll {P : State → Prop} (wake : ∀ s, P s → P (s.withWait .none)) : Keeps P poll := by
  intro s hs
  unfold poll
  cases s.cfg.interruptModel with
  | fault => dsimp only; split_ifs <;> exact hs
  | mc6809 => dsimp only; split_ifs; exacts [wake s hs, hs]

section BodyStable

variable {P : State → Prop} (h : BodyStable P)
include h

theorem keeps_irqEntry : Keeps P irqEntry := by
  refine keeps_bind keeps_get fun _ => keeps_ite ?_ ?_
  · exact keeps_bind (keeps_modify fun u hu => h.setCyc _ _ (h.wake u hu)) fun _ => keeps_enterHandler h.toStable _ _
  · exact keeps_bind (keeps_pushEntire h.toStable) fun _ =>
      keeps_bind (keeps_modify fun u hu => h.setCyc u _ hu) fun _ => keeps_enterHandler h.toStable _ _

theorem ends_executeOne {s : State} (hs : P s) : Ends P (executeOne s) := by
  unfold executeOne
  cases e : fetchInstr s with
  | ok i t =>
    have ht := (keeps_fetchInstr h.toStable).ok hs e
    exact ends_exec (h.toStable.execStable h.sleep) (h.setCyc t _ ht)
  | error k t => exact ends_stop k ((keeps_fetchInstr h.toStable).error hs e)

theorem ends_stepBody {s : State} (hs : P s) : Ends P (stepBody s) := by
  unfold stepBody
  split
  · exact ends_finish (keeps_irqEntry h) hs
  · split
    · exact h.setCyc s 1 hs
    · exact ends_executeOne h hs

end BodyStable

theorem ends_endOfStep {P : State → Prop} (h : StepStable P) {s : State} (hs : P s) : Ends P (endOfStep s) :=
  ends_finish (keeps_poll h.wake) (h.spend _ _ (h.advance s hs))

/-- A machine with no fault: what holds at the beginning of its step holds wherever the step ends. -/
theorem ends_step {P : State → Prop} (h : StepStable P) {s : State} (hf : s.fault = none) (hs : P (beginStep s)) :
    Ends P (step s) := by
  simp only [step, stepOnce, hf, stepLive]
  have body := ends_stepBody h.toBodyStable hs
  match stepBody (beginStep s), body with
  | .next t, ht => exact ends_endOfStep h ht
  | .fault (.fatal r t), ht => exact ht

theorem step_of_fault {s : State} {r : FaultRecord} (h : s.fault = some r) : step s = .fault (.fatal r s) := by
  simp only [step, stepOnce, h]

/-- A machine that steps had no fault. -/
theorem fault_eq_none_of_step {s t : State} (h : step s = .next t) : s.fault = none := by
  cases hf : s.fault with
  | none => rfl
  | some r => rw [step_of_fault hf] at h; cases h

/-! ## Faults (R411, R480) -/

theorem frameLoop_of_fault {s : State} {r : FaultRecord} (h : s.fault = some r) (n : Nat) (q : Option Nat) :
    frameLoop n q s = s := by
  cases n with
  | zero => rfl
  | succ n => simp [frameLoop, h]

/-- Settles O7: both the step and the frame loop look at the fault record first. -/
theorem faultIsSticky : Obligations.FaultIsSticky :=
  fun _ _ _ h => ⟨step_of_fault h, frameLoop_of_fault h, rfl⟩

/-- The part of the state that no step changes, and the address of the step's instruction. -/
def StepConstants (s t : State) : Prop := t.pc0 = s.pc0 ∧ t.cfg = s.cfg ∧ t.buttons = s.buttons

theorem advanceDevices_eq (s : State) : ∃ v p, advanceDevices s = (s.withVia v).withPsg p := by
  unfold advanceDevices
  cases s.cfg.bus with
  | vectrex => exact ⟨_, _, rfl⟩
  | flatTest => exact ⟨s.via, s.psg, rfl⟩

theorem stepStable_constants (s0 : State) : StepStable (StepConstants s0) where
  toStable := stable_of_updates (fun s r v hs => by simpa [StepConstants] using hs)
    (fun s r v hs => by simpa [StepConstants] using hs) (fun _ _ hs => hs) (fun _ _ hs => hs) (fun _ _ hs => hs)
    fun _ _ hs => hs
  setCyc _ _ hs := hs
  wake _ hs := hs
  sleep _ _ _ hs := hs
  advance s hs := by obtain ⟨v, p, e⟩ := advanceDevices_eq s; rw [e]; exact hs
  spend _ _ hs := hs

theorem ends_step_constants {s : State} (hf : s.fault = none) : Ends (StepConstants (beginStep s)) (step s) :=
  ends_step (stepStable_constants _) hf ⟨rfl, rfl, rfl⟩

/-- Settles O8: the record is made of the fault and of pc0, which the step keeps from its beginning on. -/
theorem faultRecordNamesInstruction : Obligations.FaultRecordNamesInstruction := by
  intro s t r hf h
  obtain ⟨k, u, ⟨pc0, cfg, buttons⟩, rfl, rfl⟩ := (ends_step_constants hf).fault h
  exact ⟨pc0, rfl, pc0, cfg, buttons⟩

/-! ## The cycles of a step (R14, R470) -/

theorem one_le_defaultCycles (i : Instr) : 1 ≤ defaultCycles i := by
  cases i with
  | lda m | ldb m | adda m | addb m | adca m | adcb m | suba m | subb m | cmpa m | cmpb m | ora m | orb m
  | anda m | andb m | bita m | bitb m | eora m | eorb m | sbca m | sbcb m
  | ldd m | ldx m | ldy m | ldu m | lds m | addd m | subd m | cmpd m | cmpx m | cmpy m | cmpu m | cmps m =>
    rcases m with _ | (_ | _ | _) <;> exact Nat.le_of_ble_eq_true rfl
  | sta e | stb e | std e | stx e | sty e | stu e | sts e | clr e | neg e | inc e | dec e | asr e | lsr e | asl e
  | com e | tst e | jmp e | jsr e | rol e | ror e => cases e <;> exact Nat.le_of_ble_eq_true rfl
  | _ => exact Nat.le_of_ble_eq_true rfl

theorem stable_le_cyc (n : Nat) : Stable fun s => n ≤ s.cyc :=
  stable_of_updates (fun s r v hs => by simpa using hs) (fun s r v hs => by simpa using hs)
    (fun _ _ hs => Nat.le_add_right_of_le hs) (fun _ _ hs => hs) (fun _ _ hs => hs) fun _ _ hs => hs

/-- An instruction spends its base count or more. -/
theorem baseCycles_le_of_exec {i : Instr} {s t : State} (h : exec i s = .next t) : baseCycles s.cfg i ≤ t.cyc :=
  (ends_exec ((stable_le_cyc _).execStable fun _ _ _ hu => hu) (Nat.le_refl (start i s).cyc)).next h

/-- The IRQ entry spends 1 cycle or 19 (R433). -/
theorem one_le_cyc_of_irqEntry {s t : State} (h : irqEntry s = .ok ⟨⟩ t) : 1 ≤ t.cyc := by
  have entered := keeps_enterHandler (stable_le_cyc 1) maskI vectorIrq
  obtain ⟨_, _, ⟨⟩, h⟩ := M.bind_eq_ok h
  split at h
  · obtain ⟨_, _, ⟨⟩, h⟩ := M.bind_eq_ok h
    exact entered.ok (Nat.le_refl 1) h
  · obtain ⟨_, _, _, h⟩ := M.bind_eq_ok h
    obtain ⟨_, _, ⟨⟩, h⟩ := M.bind_eq_ok h
    exact entered.ok (Nat.le_of_ble_eq_true rfl) h

theorem one_le_cyc_of_stepBody {s t : State} (hc : s.cfg.cyclesPositive = true) (h : stepBody s = .next t) :
    1 ≤ t.cyc := by
  unfold stepBody executeOne at h
  split at h
  · exact one_le_cyc_of_irqEntry (finish_eq_next h)
  · split at h
    · cases h
      exact Nat.le_refl 1
    · split at h
      next i u e =>
        have cfg : u.cfg = s.cfg := (keeps_fetchInstr (stable_cfg s.cfg)).ok rfl e
        exact (one_le_baseCycles (cfg ▸ hc) (one_le_defaultCycles i)).trans (baseCycles_le_of_exec h)
      next => cases h

/-- No part of a step before its end spends the budget. -/
theorem budget_of_stepBody {s t : State} (h : stepBody s = .next t) : t.budget = s.budget := by
  have kept : BodyStable fun u => u.budget = s.budget :=
    { stable_of_updates (P := fun u => u.budget = s.budget) (fun u r v hu => (u.set8_budget r v).trans hu)
        (fun u r v hu => (u.set16_budget r v).trans hu) (fun _ _ hu => hu) (fun _ _ hu => hu) (fun _ _ hu => hu)
        fun _ _ hu => hu with
      setCyc := fun _ _ hu => hu
      wake := fun _ hu => hu
      sleep := fun _ _ _ hu => hu }
  exact (ends_stepBody kept rfl).next h

/-- The end of a step spends the step's cycles and no others. -/
theorem endOfStep_next {s t : State} (h : endOfStep s = .next t) :
    t.cyc = s.cyc ∧ t.budget = s.budget - (s.cyc : Rat) := by
  have spent : (spendBudget (advanceDevices s)).cyc = s.cyc ∧
      (spendBudget (advanceDevices s)).budget = s.budget - (s.cyc : Rat) := by
    obtain ⟨v, p, e⟩ := advanceDevices_eq s
    rw [e]
    exact ⟨rfl, rfl⟩
  exact (keeps_poll (P := fun u => u.cyc = s.cyc ∧ u.budget = s.budget - (s.cyc : Rat)) fun _ hu => hu).ok spent
    (finish_eq_next h)

/-- A step that answers is its first part and its end. -/
theorem exists_stepBody_of_step {s t : State} (h : step s = .next t) :
    ∃ u, stepBody (beginStep s) = .next u ∧ endOfStep u = .next t := by
  have hf := fault_eq_none_of_step h
  simp only [step, stepOnce, hf, stepLive] at h
  cases e : stepBody (beginStep s) with
  | next u => rw [e] at h; exact ⟨u, rfl, h⟩
  | fault r => rw [e] at h; cases h
  | refused r => rw [e] at h; cases h

/-- Settles O13: the first part of a step spends a cycle or more, its end takes them from the budget. -/
theorem stepSpendsCycles : Obligations.StepSpendsCycles := by
  intro s t h
  obtain ⟨u, body, ended⟩ := exists_stepBody_of_step h
  obtain ⟨cyc, budget⟩ := endOfStep_next ended
  rw [cyc, budget, budget_of_stepBody body]
  exact ⟨fun hc => one_le_cyc_of_stepBody (s := beginStep s) hc body, rfl⟩

end Sys2Proof.Machine

/-!
O10 to O12, the invariant (spec/60_exceptions.md R430 to R468, R481, R486). Registers and cycles are no part of it, so
it is stable as soon as the bus keeps it: memory by the laws of the cell list, the VIA register by register, the PSG by
its bus. With the devices' update and the waits it survives everything a step is made of.
-/
namespace Sys2Proof.Machine

/-! ## What the invariant speaks of -/

/-- The invariant speaks of memory, the VIA, the PSG, the wait and the parameters alone. -/
theorem Safe.congr {s t : State} (h : Safe s) (hm : t.mem = s.mem) (hv : t.via = s.via) (hp : t.psg = s.psg)
    (hw : t.wait = s.wait) (hc : t.cfg = s.cfg) : Safe t where
  memWf := by rw [hm]; exact h.memWf
  memKeys := by rw [hm, hc]; exact h.memKeys
  via := by rw [hv]; exact h.via
  psg := by rw [hp]; exact h.psg
  mode := by rw [hp, hv]; exact h.mode
  wait := by rw [hw, hc]; exact h.wait
  ier := by rw [hv, hc]; exact h.ier
  cycles := by rw [hc]; exact h.cycles

theorem Safe.withVia {s : State} (h : Safe s) {v : Via} (hv : ViaSafe v) (horb : v.orb = s.via.orb)
    (hier : s.cfg.viaFlagWrites = .ignore → v.ier = 0) : Safe (s.withVia v) :=
  { h with via := hv, mode := h.mode.trans (by rw [← horb]; rfl), ier := hier }

/-! ## Memory -/

theorem storedKey_cellKey {bus : BusConfig} {a : Word} (h : storable bus a = true) :
    storedKey bus (cellKey bus a) = true := by
  cases bus with
  | vectrex =>
    have ram := (storable_vectrex_iff a).mp h
    rw [cellKey_of_ram ((region_vectrex_eq_ram_iff a).mpr ram)]
    simp only [storedKey, Bool.or_eq_true, Bool.and_eq_true, decide_eq_true_eq]
    omega
  | flatTest => exact decide_eq_true (cellKey_lt _ a)

theorem Safe.withMem_put {s : State} (h : Safe s) {a : Word} (ha : storable s.cfg.bus a = true) (v : Byte) :
    Safe (s.withMem (s.mem.put (cellKey s.cfg.bus a) v)) :=
  { h with
    memWf := Memory.wf_put s.mem h.memWf _ v
    memKeys := fun c hc => by
      obtain key | old := Memory.mem_put _ _ _ c hc
      · rw [key]; exact storedKey_cellKey ha
      · exact h.memKeys c old }

/-! ## The VIA's registers -/

section ViaSafe

variable {v : Via} (h : ViaSafe v)
include h

theorem ViaSafe.withIfr {f : BitVec 7} (hf : f &&& 0x1F = 0) : ViaSafe { v with ifr := f } :=
  { h with ifr := hf }

theorem ViaSafe.ifr_and (m : BitVec 7) : v.ifr &&& m &&& 0x1F = 0 := by
  rw [BitVec.and_assoc, BitVec.and_comm m, ← BitVec.and_assoc, h.ifr]
  exact BitVec.zero_and

theorem ViaSafe.ifr_or {m : BitVec 7} (hm : m &&& 0x1F = 0) : (v.ifr ||| m) &&& 0x1F = 0 := by
  rw [BitVec.and_or_distrib_right, h.ifr, hm]
  rfl

theorem ViaSafe.routeDac : ViaSafe v.routeDac := by
  unfold Via.routeDac
  split
  · exact { h with }
  · split <;> exact { h with }

theorem ViaSafe.writePcr {x : Byte} (hx : pcrSupported x = true) : ViaSafe (v.writePcr x) := by
  unfold Via.writePcr
  split
  · next hz => exact { h with
      pcr := .inr ⟨hx, rfl, rfl⟩
      zero := fun _ => ⟨rfl, rfl, rfl⟩
      lit := List.forall_mem_nil _ }
  · next hz => exact { h with
      pcr := .inr ⟨hx, rfl, rfl⟩
      zero := fun e => absurd (eq_of_beq e) hz }

/-- An expired Timer1 is no longer armed, and its output is 1 again. -/
theorem ViaSafe.timer1 (n : Nat) : ViaSafe (v.timer1 n) := by
  unfold Via.timer1
  dsimp only
  split
  · exact { h with
      ifr := h.ifr_or rfl
      pb7 := rfl }
  · exact { h with }

theorem ViaSafe.timer2 (n : Nat) : ViaSafe (v.timer2 n) := by
  unfold Via.timer2
  dsimp only
  split
  · exact { h with ifr := h.ifr_or rfl }
  · exact { h with }

/-- Only a beam that is not held by /ZERO moves, and only a lit one draws. -/
theorem ViaSafe.integrate (k : Rat) (n : Nat) (on : Bool) : ViaSafe (v.integrate k n on) := by
  unfold Via.integrate
  split
  · next hz =>
    obtain ⟨-, -, lines⟩ := h.zero hz
    exact { h with zero := fun _ => ⟨rfl, rfl, lines⟩ }
  · next hz =>
    split
    · dsimp only
      split
      · next hl =>
        obtain ⟨-, bright⟩ := (lit_iff v).mp hl
        exact { h with
          zero := fun e => absurd e hz
          lit := List.forall_mem_append.mpr ⟨h.lit, fun g hg => by rw [List.mem_singleton.mp hg]; exact bright⟩ }
      · exact { h with zero := fun e => absurd e hz }
    · exact h

theorem ViaSafe.update (k : Rat) (n : Nat) : ViaSafe (v.update k n) :=
  ((h.timer1 n).timer2 n).integrate k n _

end ViaSafe

/-! ## The PSG -/

theorem PsgSafe.enter {p : Psg} (h : PsgSafe p) (m : PsgMode) (da : Byte) (btn : BitVec 4) :
    PsgSafe (psgEnter m da btn p) := by
  cases m with
  | inactive | latchAddress | read => exact { h with }
  | write =>
    refine { h with masked := fun a => ?_ }
    change (p.setReg p.addr (da &&& psgMask p.addr)).reg a &&& ~~~psgMask a = 0
    rw [Psg.reg_setReg]
    split
    · next ha => rw [ha, BitVec.and_assoc, BitVec.and_not_self]; exact BitVec.and_zero
    · exact h.masked a

theorem PsgSafe.bus {p : Psg} (h : PsgSafe p) (bdir bc1 : Bool) (da : Byte) (btn : BitVec 4) :
    PsgSafe (psgBus bdir bc1 da btn p) := by
  unfold psgBus
  split
  · exact h
  · exact h.enter _ da btn

theorem PsgSafe.update {p : Psg} (h : PsgSafe p) (n : Nat) : PsgSafe (psgUpdate n p) := by
  obtain ⟨div, ⟨new, samples, -, bounds⟩, regs, -⟩ := clocked_psgUpdate n h.div
  refine ⟨div ▸ Nat.mod_lt _ (by decide), fun a => ?_, ?_⟩
  · simp only [Psg.reg, regs]
    exact h.masked a
  · rw [samples]
    exact List.forall_mem_append.mpr ⟨h.samples, bounds⟩

/-! ## The bus -/

/-- A read draws a free value or clears a flag of the VIA, and changes nothing else. -/
theorem keeps_safe_viaRead (a : Word) : Keeps Safe (viaRead a) := by
  intro s hs
  unfold viaRead
  cases viaReg a with
  | portB => exact hs.withVia { hs.via with } rfl hs.ier
  | portA =>
    obtain ⟨k, e⟩ := portARead_eq s
    dsimp only
    rw [e]
    exact hs.withVia { hs.via with } rfl hs.ier
  | t1CounterLow | t2Low => exact hs.withVia (hs.via.withIfr (hs.via.ifr_and _)) rfl hs.ier
  | _ => exact hs

theorem Via.routeDac_frame (v : Via) : v.routeDac.orb = v.orb ∧ v.routeDac.ier = v.ier := by
  unfold Via.routeDac
  split
  · exact ⟨rfl, rfl⟩
  · split <;> exact ⟨rfl, rfl⟩

/-- A write of Port B puts the PSG in the mode of its own bits 4 and 3. -/
theorem Safe.writePortB {s : State} (h : Safe s) (x : Byte) : Safe (writePortB x s) := by
  obtain ⟨orb, ier⟩ := Via.routeDac_frame { s.via with orb := x }
  exact { h with
    via := ViaSafe.routeDac { h.via with }
    psg := h.psg.bus _ _ _ _
    mode := by
      change (psgBus _ _ _ _ _).mode = psgModeOf ((Via.routeDac _).orb.getLsbD 4) ((Via.routeDac _).orb.getLsbD 3)
      rw [psgBus_mode, orb]
    ier := fun hi => ier.trans (h.ier hi) }

theorem Via.writePcr_frame (v : Via) (x : Byte) : (v.writePcr x).orb = v.orb ∧ (v.writePcr x).ier = v.ier := by
  rw [Via.writePcr_eq]
  exact ⟨rfl, rfl⟩

theorem keeps_safe_ifrWrite (x : Byte) : Keeps Safe (ifrWrite x) := by
  intro s hs
  unfold ifrWrite
  cases s.cfg.viaFlagWrites with
  | ignore => exact hs
  | strict => dsimp only; split_ifs <;> exact hs
  | mc6522 => exact hs.withVia (hs.via.withIfr (hs.via.ifr_and _)) rfl hs.ier

theorem keeps_safe_ierWrite (x : Byte) : Keeps Safe (ierWrite x) := by
  intro s hs
  unfold ierWrite
  cases hw : s.cfg.viaFlagWrites with
  | ignore => exact hs
  | strict => dsimp only; split_ifs <;> exact hs
  | mc6522 => exact hs.withVia { hs.via with } rfl (by rw [hw]; exact nofun)

theorem keeps_safe_viaWrite (a : Word) (x : Byte) : Keeps Safe (viaWrite a x) := by
  intro s hs
  unfold viaWrite
  cases viaReg a with
  | portB => exact hs.writePortB x
  | portA =>
    obtain ⟨orb, ier⟩ := Via.routeDac_frame { s.via with ora := x }
    exact hs.withVia (ViaSafe.routeDac { hs.via with }) orb fun hi => ier.trans (hs.ier hi)
  | ddrb | ddra | t1CounterLow | t1LatchLow | t2Low | shift => exact hs.withVia { hs.via with } rfl hs.ier
  | t1CounterHigh => exact hs.withVia { hs.via with ifr := hs.via.ifr_and _, pb7 := rfl } rfl hs.ier
  | t1LatchHigh | t2High => exact hs.withVia { hs.via with ifr := hs.via.ifr_and _ } rfl hs.ier
  | auxControl =>
    dsimp only
    split_ifs with hx
    · exact hs.withVia { hs.via with acr := hx } rfl hs.ier
    · exact hs
  | peripheralControl =>
    dsimp only
    split_ifs with hx
    · obtain ⟨orb, ier⟩ := Via.writePcr_frame s.via x
      exact hs.withVia (hs.via.writePcr hx) orb fun hi => ier.trans (hs.ier hi)
    · exact hs
  | interruptFlag => exact keeps_safe_ifrWrite x s hs
  | interruptEnable => exact keeps_safe_ierWrite x s hs
  | unlisted => exact hs

theorem keeps_safe_read8 (a : Word) : Keeps Safe (read8 a) := by
  intro s hs
  cases hp : s.peek a with
  | some v => rw [read8_of_peek hp]; exact hs
  | none => rw [read8_of_via hp]; exact keeps_safe_viaRead a s hs

theorem keeps_safe_write8 (a : Word) (x : Byte) : Keeps Safe (write8 a x) := by
  intro s hs
  by_cases hv : region s.cfg.bus a = .via
  · rw [write8_via hv]; exact keeps_safe_viaWrite a x s hs
  · cases ha : storable s.cfg.bus a with
    | true => rw [write8_of_storable ha]; exact hs.withMem_put ha x
    | false => rw [write8_discarded hv ha]; exact hs

theorem stable_safe : Stable Safe where
  set8 s r v hs := hs.congr (s.set8_mem r v) (s.set8_via r v) (s.set8_psg r v) (s.set8_wait r v) (s.set8_cfg r v)
  set16 s r v hs :=
    hs.congr (s.set16_mem r v) (s.set16_via r v) (s.set16_psg r v) (s.set16_wait r v) (s.set16_cfg r v)
  cyc _ _ hs := hs.congr rfl rfl rfl rfl rfl
  read := keeps_safe_read8
  write := keeps_safe_write8

/-! ## The step -/

theorem Via.update_ier (k : Rat) (n : Nat) (v : Via) : (v.update k n).ier = v.ier := by
  obtain ⟨x, y, l, e⟩ := Via.integrate_frame k n v.rampOn ((v.timer1 n).timer2 n)
  rw [Via.update, e, Via.timer2_eq, Via.timer1_eq]

theorem Safe.advanceDevices {s : State} (h : Safe s) : Safe (advanceDevices s) := by
  unfold Machine.advanceDevices
  cases hb : s.cfg.bus with
  | flatTest => exact h
  | vectrex =>
    obtain ⟨-, -, -, -, mode, -⟩ := clocked_psgUpdate s.cyc h.psg.div
    exact { h with
      via := h.via.update _ _
      psg := h.psg.update _
      mode := mode.trans (h.mode.trans (by rw [← (sameInputs_update s.cfg.kInt s.cyc s.via).orb]; rfl))
      ier := fun hi => (Via.update_ier _ _ _).trans (h.ier hi) }

theorem tierAllowed_waiting_iff {c : Config} :
    tierAllowed c .waiting = true ↔ c.extendedSet = true ∧ c.interruptModel = .mc6809 := by
  simp [tierAllowed]

theorem stepStable_safe : StepStable Safe :=
  { stable_safe with
    setCyc := fun _ _ hs => hs.congr rfl rfl rfl rfl rfl
    wake := fun _ hs => { hs with wait := fun h => absurd rfl h }
    sleep := fun _ _ hc hs => { hs with wait := fun _ => tierAllowed_waiting_iff.mp hc }
    advance := fun _ hs => hs.advanceDevices
    spend := fun _ _ hs => hs.congr rfl rfl rfl rfl rfl }

theorem ends_step_safe {s : State} (hs : Safe s) (hf : s.fault = none) : Ends Safe (step s) :=
  ends_step stepStable_safe hf (hs.congr rfl rfl rfl rfl rfl)

/-- Settles O10: the invariant survives what a step is made of. -/
theorem stepKeepsSafe : Obligations.StepKeepsSafe :=
  fun _ _ hs h => (ends_step_safe hs (fault_eq_none_of_step h)).next h

/-- Settles O11: the state a fault leaves is one the invariant holds of, with the record set. -/
theorem faultLeavesSafe : Obligations.FaultLeavesSafe := by
  intro s t r hs h
  cases hf : s.fault with
  | none =>
    obtain ⟨k, u, hu, -, rfl⟩ := (ends_step_safe hs hf).fault h
    exact hu.congr rfl rfl rfl rfl rfl
  | some r' =>
    rw [step_of_fault hf] at h
    cases h
    exact hs

/-! ## No interrupt under `ignore` (R481) -/

theorem Safe.irqLine_eq_false {s : State} (h : Safe s) (hi : s.cfg.viaFlagWrites = .ignore) : s.irqLine = false := by
  simp [State.irqLine, Via.irq, h.ier hi]

theorem poll_of_irqLine_eq_false {s : State} (h : s.irqLine = false) : poll s = .ok ⟨⟩ s := by
  unfold poll
  cases s.cfg.interruptModel <;> simp [h]

/-- Settles O12: no IRQ line without an enabled interrupt, and no part of the step enables one. -/
theorem pollNeverFaultsUnderIgnore : Obligations.PollNeverFaultsUnderIgnore := by
  intro s hs hi hf
  have line := hs.irqLine_eq_false hi
  refine ⟨line, by simp [irqTaken, line], fun t ht => ?_⟩
  have safe : Safe t :=
    (ends_stepBody stepStable_safe.toBodyStable (s := beginStep s) (hs.congr rfl rfl rfl rfl rfl)).next ht
  obtain ⟨-, cfg, -⟩ := (ends_stepBody (stepStable_constants (beginStep s)).toBodyStable ⟨rfl, rfl, rfl⟩).next ht
  have ended : Safe (spendBudget (advanceDevices t)) := stepStable_safe.spend _ _ safe.advanceDevices
  have ignore : (spendBudget (advanceDevices t)).cfg.viaFlagWrites = .ignore := by
    change (advanceDevices t).cfg.viaFlagWrites = .ignore
    rw [advanceDevices_cfg, cfg]
    exact hi
  have quiet := ended.irqLine_eq_false ignore
  exact ⟨_, (step_of_stepBody hf ht).trans (finish_ok (poll_of_irqLine_eq_false quiet))⟩

end Sys2Proof.Machine

/-!
O4 to O6, the fetch of an instruction from memory (spec/30_encoding.md R100 to R103, spec/60_exceptions.md R413 to R416,
R434, R470). Where the bytes of an operand, an opcode or an instruction stand at PC, the fetch answers what they stand
for and PC goes on to the byte after them: the words of the decoder (O1 to O3) are what the fetch reads. A byte with no
meaning is the last one fetched.
-/
namespace Sys2Proof.Machine

/-! ## What a fetch reads -/

section Fetching

variable {α β : Type} {c : Config}

/-- Under the configuration, where the bytes stand at PC the computation answers `a`, and only PC has changed. -/
def Fetches (c : Config) (m : M α) (a : α) (bs : List Byte) : Prop :=
  ∀ s : State, s.cfg = c → HoldsBytes s s.pc bs → m s = .ok a (s.withPC (s.pc + BitVec.ofNat 16 bs.length))

/-- Under the configuration, where the bytes stand at PC the computation faults, and only PC has changed. -/
def FetchFaults (c : Config) (m : M α) (k : FaultKind) (bs : List Byte) : Prop :=
  ∀ s : State, s.cfg = c → HoldsBytes s s.pc bs → m s = .error k (s.withPC (s.pc + BitVec.ofNat 16 bs.length))

/-- What stands in memory depends on memory and the configuration alone. -/
theorem HoldsBytes.of_same {s : State} {a : Word} {bs : List Byte} (h : HoldsBytes s a bs) (t : State)
    (hm : t.mem = s.mem) (hc : t.cfg = s.cfg) : HoldsBytes t a bs := by
  induction bs generalizing a with
  | nil => trivial
  | cons b bs ih =>
    obtain ⟨first, rest⟩ := h
    exact ⟨(peek_congr hm hc a).trans first, ih rest⟩

theorem withPC_append (s : State) (u v : List Byte) :
    (s.withPC (s.pc + BitVec.ofNat 16 u.length)).withPC
      ((s.withPC (s.pc + BitVec.ofNat 16 u.length)).pc + BitVec.ofNat 16 v.length) =
    s.withPC (s.pc + BitVec.ofNat 16 (u ++ v).length) := by
  rw [State.withPC_pc, BitVec.add_assoc, ← BitVec.ofNat_add, List.length_append]
  rfl

theorem fetches_pure (a : α) : Fetches c (pure a) a [] := by
  intro s _ _
  rw [List.length_nil, BitVec.add_zero]
  rfl

theorem fetchFaults_raise (k : FaultKind) : FetchFaults c (raise k : M α) k [] := by
  intro s _ _
  rw [List.length_nil, BitVec.add_zero]
  rfl

theorem Fetches.bind {m : M α} {f : α → M β} {a : α} {b : β} {u v : List Byte} (hm : Fetches c m a u)
    (hf : Fetches c (f a) b v) : Fetches c (m >>= f) b (u ++ v) := by
  intro s hc hs
  obtain ⟨first, rest⟩ := (holdsBytes_append s s.pc u v).mp hs
  rw [M.bind_ok (hm s hc first),
    hf (s.withPC (s.pc + BitVec.ofNat 16 u.length)) hc (rest.of_same _ rfl rfl), withPC_append]

theorem Fetches.bind_faults {m : M α} {f : α → M β} {a : α} {k : FaultKind} {u v : List Byte} (hm : Fetches c m a u)
    (hf : FetchFaults c (f a) k v) : FetchFaults c (m >>= f) k (u ++ v) := by
  intro s hc hs
  obtain ⟨first, rest⟩ := (holdsBytes_append s s.pc u v).mp hs
  rw [M.bind_ok (hm s hc first),
    hf (s.withPC (s.pc + BitVec.ofNat 16 u.length)) hc (rest.of_same _ rfl rfl), withPC_append]

theorem FetchFaults.bind {m : M α} {f : α → M β} {k : FaultKind} {u : List Byte} (hm : FetchFaults c m k u) :
    FetchFaults c (m >>= f) k u := fun s hc hs => M.bind_error (hm s hc hs)

/-- An answer is made into another. -/
theorem Fetches.map {m : M α} {a : α} {u : List Byte} (hm : Fetches c m a u) (g : α → β) :
    Fetches c (m >>= fun x => pure (g x)) (g a) u :=
  List.append_nil u ▸ hm.bind (fetches_pure (g a))

theorem fetches_fetch8 (v : Byte) : Fetches c fetch8 v [v] := fun _ _ ⟨h, _⟩ => fetch8_of_peek h

theorem fetches_fetch16 (w : Word) : Fetches c fetch16 w (wordBytes w) := by
  have low : Fetches c (do let l ← fetch8; pure (joinBytes (hiByte w) l)) w [loByte w] := by
    have joined := (fetches_fetch8 (c := c) (loByte w)).map (joinBytes (hiByte w))
    rwa [joinBytes_hi_lo] at joined
  exact (fetches_fetch8 (hiByte w)).bind low

/-! ## Opcodes and operands -/

theorem fetches_fetchIdx {x : Idx} {bs : List Byte} (h : IdxWord x bs) : Fetches c fetchIdx x bs := by
  obtain ⟨pp, extra, hx, rfl⟩ := h
  refine (fetches_fetch8 pp).bind (v := extra) ?_
  cases hf : idxForm pp <;> rw [hf] at hx
  case none =>
    obtain ⟨rfl, rfl⟩ := hx
    exact fetches_pure _
  case one k =>
    obtain ⟨n, rfl, rfl⟩ := hx
    exact (fetches_fetch8 n).map k
  case two k =>
    obtain ⟨n, rfl, rfl⟩ := hx
    exact (fetches_fetch16 n).map k
  case illegal => exact hx.elim

theorem fetches_fetchPair {p : XReg × XReg} {bs : List Byte} (h : PairWord p bs) : Fetches c fetchPair p bs := by
  obtain ⟨pp, hp, rfl⟩ := h
  refine (fetches_fetch8 pp).bind (v := []) ?_
  rw [hp]
  exact fetches_pure p

theorem fetches_fetchOperand {f : OpForm} {i : Instr} {bs : List Byte} (h : f.Completes i bs) :
    Fetches c (fetchOperand f) i bs := by
  cases f with
  | inh =>
    obtain ⟨rfl, rfl⟩ := h
    exact fetches_pure _
  | imm8 k | dir k | rel8 k | reglist k =>
    obtain ⟨v, rfl, rfl⟩ := h
    exact (fetches_fetch8 v).map k
  | imm16 k | ext k | rel16 k =>
    obtain ⟨w, rfl, rfl⟩ := h
    exact (fetches_fetch16 w).map k
  | idx k =>
    obtain ⟨x, rfl, hx⟩ := h
    exact (fetches_fetchIdx hx).map k
  | regpair k =>
    obtain ⟨p, rfl, hp⟩ := h
    exact (fetches_fetchPair hp).map fun p => k p.1 p.2

theorem fetches_fetchOpcode {po : Page × Byte} {bs : List Byte} (h : OpcodeWord po bs) : Fetches c fetchOpcode po bs := by
  obtain ⟨p, op⟩ := po
  obtain ⟨unpaged, rfl⟩ := h
  cases p with
  | p0 =>
    refine (fetches_fetch8 op).bind (v := []) ?_
    rw [unpaged rfl]
    exact fetches_pure _
  | p1 => exact (fetches_fetch8 0x10).bind (v := [op]) ((fetches_fetch8 op).map fun op => (Page.p1, op))
  | p2 => exact (fetches_fetch8 0x11).bind (v := [op]) ((fetches_fetch8 op).map fun op => (Page.p2, op))

/-! ## The row of an opcode (R102, R434) -/

theorem fetches_rowFor {p : Page} {op : Byte} {row : Row} (hl : lookup p op = some row)
    (ht : tierAllowed c row.tier = true) : Fetches c (rowFor p op) row [] := by
  intro s hc hs
  rw [rowFor, hl]
  refine (M.bind_ok (M.get_apply s)).trans ?_
  rw [hc, if_pos ht]
  exact fetches_pure row s hc hs

/-- An opcode without a row, or one the configuration does not execute. -/
def WithoutMeaning (c : Config) (p : Page) (op : Byte) (k : FaultKind) : Prop :=
  lookup p op = none ∧ k = .illegalOpcode p op ∨
    ∃ row, lookup p op = some row ∧ tierAllowed c row.tier = false ∧ k = .unimplementedOpcode p op

theorem fetchFaults_rowFor {p : Page} {op : Byte} {k : FaultKind} (h : WithoutMeaning c p op k) :
    FetchFaults c (rowFor p op) k [] := by
  intro s hc hs
  obtain ⟨hl, rfl⟩ | ⟨row, hl, ht, rfl⟩ := h <;> rw [rowFor, hl]
  · exact fetchFaults_raise _ s hc hs
  · refine (M.bind_ok (M.get_apply s)).trans ?_
    rw [hc, if_neg (by simp [ht])]
    exact fetchFaults_raise _ s hc hs

/-- The fetch reads an instruction the configuration executes from its word. -/
theorem fetches_fetchInstr {i : Instr} {bs : List Byte} (h : InstrWord i bs)
    (ht : ∀ row, lookup (opcodeOf i).1 (opcodeOf i).2 = some row → tierAllowed c row.tier = true) :
    Fetches c fetchInstr i bs := by
  obtain ⟨p, op, row, operand, hl, hcomp, rfl⟩ := h
  obtain ⟨opcode, -, -⟩ := (encodes_of_lookup hl).of_completes hcomp
  rw [opcode] at ht
  have word : OpcodeWord (p, op) (p.bytes ++ [op]) := ⟨by rintro rfl; exact pageOf_eq_none_of_lookup hl, rfl⟩
  rw [List.append_cons]
  exact (fetches_fetchOpcode word).bind ((fetches_rowFor hl (ht row hl)).bind (fetches_fetchOperand hcomp))

theorem fetchFaults_fetchInstr_of_opcode {p : Page} {op : Byte} {k : FaultKind} {bs : List Byte}
    (hw : OpcodeWord (p, op) bs) (h : WithoutMeaning c p op k) : FetchFaults c fetchInstr k bs :=
  List.append_nil bs ▸ (fetches_fetchOpcode hw).bind_faults (fetchFaults_rowFor h).bind

theorem fetchFaults_fetchInstr_of_operand {p : Page} {op : Byte} {row : Row} {k : FaultKind} {u v : List Byte}
    (hw : OpcodeWord (p, op) u) (hl : lookup p op = some row) (ht : tierAllowed c row.tier = true)
    (h : FetchFaults c (fetchOperand row.form) k v) : FetchFaults c fetchInstr k (u ++ v) :=
  (fetches_fetchOpcode hw).bind_faults ((fetches_rowFor hl ht).bind_faults h)

/-! ## Illegal post-bytes (R141, R350) -/

theorem idxForm_illegal {pp : Byte} (h7 : pp.getLsbD 7 = true)
    (h : lowNibble pp = 7 ∨ lowNibble pp = 10 ∨ lowNibble pp = 14) : idxForm pp = .illegal := by
  rw [idxForm, if_pos h7]
  obtain h | h | h := h <;> rw [h] <;> rfl

theorem fetchFaults_idx {pp : Byte} (h : idxForm pp = .illegal) (k : Idx → Instr) :
    FetchFaults c (fetchOperand (.idx k)) (.illegalIndexedMode pp) [pp] := by
  refine FetchFaults.bind ((fetches_fetch8 pp).bind_faults (v := []) ?_)
  rw [h]
  exact fetchFaults_raise _

/-- A nibble that names no register. -/
theorem xregOf_undefined {n : BitVec 4} (h : n = 6 ∨ n = 7 ∨ 12 ≤ n.toNat) : xregOf n = none := by
  revert n
  decide

/-- Bit 3 of a nibble is the width of the register it names. -/
theorem is8_of_xregOf {n : BitVec 4} {r : XReg} (h : xregOf n = some r) : r.is8 = n.getLsbD 3 := by
  have widths : ∀ n : BitVec 4, (xregOf n).all (fun r => r.is8 == n.getLsbD 3) = true := by decide
  have width := widths n
  rw [h] at width
  exact eq_of_beq width

theorem regPair_illegal {pp : Byte} (h : pp.getLsbD 3 ≠ pp.getLsbD 7 ∨ lowNibble pp = 6 ∨ lowNibble pp = 7 ∨
    12 ≤ (lowNibble pp).toNat ∨ highNibble pp = 6 ∨ highNibble pp = 7 ∨ 12 ≤ (highNibble pp).toNat) :
    regPair pp = none := by
  unfold regPair
  cases h1 : xregOf (highNibble pp) with
  | none => rfl
  | some r1 =>
    cases h2 : xregOf (lowNibble pp) with
    | none => rfl
    | some r2 =>
      have mixed : r1.sameWidth r2 = false := by
        have high : (highNibble pp).getLsbD 3 = pp.getLsbD 7 := by simp [highNibble]
        have low : (lowNibble pp).getLsbD 3 = pp.getLsbD 3 := by simp [lowNibble]
        obtain h | h | h | h | h | h | h := h
        · rw [XReg.sameWidth, is8_of_xregOf h1, is8_of_xregOf h2, high, low]
          exact beq_false_of_ne h.symm
        · rw [xregOf_undefined (.inl h)] at h2; cases h2
        · rw [xregOf_undefined (.inr (.inl h))] at h2; cases h2
        · rw [xregOf_undefined (.inr (.inr h))] at h2; cases h2
        · rw [xregOf_undefined (.inl h)] at h1; cases h1
        · rw [xregOf_undefined (.inr (.inl h))] at h1; cases h1
        · rw [xregOf_undefined (.inr (.inr h))] at h1; cases h1
      exact if_neg (by rw [mixed]; decide)

theorem fetchFaults_regpair {pp : Byte} (h : regPair pp = none) (k : XReg → XReg → Instr) :
    FetchFaults c (fetchOperand (.regpair k)) (.illegalRegisterTransfer pp) [pp] := by
  refine FetchFaults.bind ((fetches_fetch8 pp).bind_faults (v := []) ?_)
  rw [h]
  exact fetchFaults_raise _

end Fetching

/-! ## The step of a fetched instruction (R470) -/

section Step

variable {s : State}

theorem stepBody_eq_executeOne (hw : s.wait = .none) (hi : irqTaken s = false) :
    stepBody (beginStep s) = executeOne (beginStep s) := by
  have live : irqTaken (beginStep s) = false := hi
  have awake : ¬(beginStep s).wait ≠ .none := not_not_intro hw
  rw [stepBody, live, if_neg (by decide), if_neg awake]

variable (hf : s.fault = none) (hw : s.wait = .none) (hi : irqTaken s = false)
include hf hw hi

/-- The step of a machine that fetches an instruction. -/
theorem step_of_fetches {i : Instr} {bs : List Byte} (h : Fetches s.cfg fetchInstr i bs) (hb : HoldsBytes s s.pc bs) :
    step s = match exec i (((s.withPc0 s.pc).withCyc 0).withPC (s.pc + BitVec.ofNat 16 bs.length)) with
      | .next t => endOfStep t
      | .fault r => .fault r
      | .refused r => .refused r := by
  have fetched := h (beginStep s) rfl (hb.of_same (beginStep s) rfl rfl)
  simp only [step, stepOnce, hf, stepLive, stepBody_eq_executeOne hw hi, executeOne, fetched]
  rfl

/-- The step of a machine whose fetch faults: PC stands after the bytes fetched. -/
theorem step_of_fetchFaults {k : FaultKind} {bs : List Byte} (h : FetchFaults s.cfg fetchInstr k bs)
    (hb : HoldsBytes s s.pc bs) : step s = .fault (.fatal ⟨k, s.pc⟩
      ((((s.withPc0 s.pc).withCyc 0).withPC (s.pc + BitVec.ofNat 16 bs.length)).withFault (some ⟨k, s.pc⟩))) := by
  have faulted := h (beginStep s) rfl (hb.of_same (beginStep s) rfl rfl)
  simp only [step, stepOnce, hf, stepLive, stepBody_eq_executeOne hw hi, executeOne, faulted]
  rfl

end Step

/-- Settles O4: bytes that decode are a word of the instruction, and the fetch reads it. -/
theorem stepRunsDecodedInstruction : Obligations.StepRunsDecodedInstruction := by
  intro s i bs hf hw hi hd hb ht
  obtain ⟨used, word, rfl⟩ := (reads_decode bs i []).mp hd
  rw [List.append_nil] at hb ⊢
  exact step_of_fetches hf hw hi (fetches_fetchInstr word ht) hb

/-- The three shapes of an opcode's bytes, with what follows them. -/
theorem opcodeWord_of_shape {p : Page} {op : Byte} {bs rest : List Byte}
    (h : bs = op :: rest ∧ pageOf op = none ∧ p = .p0 ∨ bs = 0x10 :: op :: rest ∧ p = .p1 ∨
      bs = 0x11 :: op :: rest ∧ p = .p2) : ∃ u, OpcodeWord (p, op) u ∧ bs = u ++ rest := by
  obtain ⟨rfl, unpaged, rfl⟩ | ⟨rfl, rfl⟩ | ⟨rfl, rfl⟩ := h
  · exact ⟨[op], ⟨fun _ => unpaged, rfl⟩, rfl⟩
  · exact ⟨[0x10, op], ⟨nofun, rfl⟩, rfl⟩
  · exact ⟨[0x11, op], ⟨nofun, rfl⟩, rfl⟩

/-- Settles O5: the row is looked up after the opcode byte and before any operand byte. -/
theorem stepFaultsOnOpcodeWithoutMeaning : Obligations.StepFaultsOnOpcodeWithoutMeaning := by
  intro s bs p op k hf hw hi hb shape h
  obtain ⟨u, word, rfl⟩ := opcodeWord_of_shape (rest := []) shape
  rw [List.append_nil] at hb ⊢
  exact step_of_fetchFaults hf hw hi (fetchFaults_fetchInstr_of_opcode word h) hb

/-- Settles O6: the post-byte is the first operand byte, and it is checked before any other is fetched. -/
theorem stepFaultsOnIllegalPostByte : Obligations.StepFaultsOnIllegalPostByte := by
  intro s bs p op pp row hf hw hi hb shape hl ht
  obtain ⟨u, word, rfl⟩ := opcodeWord_of_shape (rest := [pp]) shape
  refine ⟨fun ⟨k, form⟩ h7 hpp => ?_, fun ⟨k, form⟩ hpp => ?_⟩
  · have operand : FetchFaults s.cfg (fetchOperand row.form) (.illegalIndexedMode pp) [pp] :=
      form ▸ fetchFaults_idx (idxForm_illegal h7 hpp) k
    exact step_of_fetchFaults hf hw hi (fetchFaults_fetchInstr_of_operand word hl ht operand) hb
  · have operand : FetchFaults s.cfg (fetchOperand row.form) (.illegalRegisterTransfer pp) [pp] :=
      form ▸ fetchFaults_regpair (regPair_illegal hpp) k
    exact step_of_fetchFaults hf hw hi (fetchFaults_fetchInstr_of_operand word hl ht operand) hb

end Sys2Proof.Machine

/-!
O40, the entry of an IRQ at the start of a step (spec/60_exceptions.md R433, R470, R482).
-/
namespace Sys2Proof.Machine

theorem flag_maskI_eq (g : Flag) : flag g maskI = decide (g = .i) := by
  cases g <;> rfl

theorem flagsAre_setE_maskI (cc : Byte) : FlagsAre cc (putFlag .e true cc ||| maskI)
    (fun g => if g = .e ∨ g = .i then some true else none) := by
  intro g
  rw [flag_or, flag_putFlag, flag_maskI_eq]
  by_cases he : g = .e <;> by_cases hi : g = .i <;> simp [he, hi]

theorem flagsAre_maskI (cc : Byte) : FlagsAre cc (cc ||| maskI) (fun g => if g = .i then some true else none) := by
  intro g
  rw [flag_or, flag_maskI_eq]
  by_cases hi : g = .i <;> simp [hi]

/-- The effect of an entry says what it costs in its cycle count alone. -/
theorem EntryEffect.withCyc {fl : Flag → Option Bool} {vector : Word} {n : Nat} {s t : State}
    (h : EntryEffect fl vector n s t) (k : Nat) : EntryEffect fl vector k s (t.withCyc k) := by
  obtain ⟨flags, sp, pc, -, rest⟩ := h
  exact ⟨flags, sp, pc, rfl, rest⟩

/-- The IRQ's entry through its vector. -/
theorem enterHandler_irq (s : State) :
    enterHandler maskI vectorIrq s = .ok ⟨⟩ ((s.withCC (s.cc ||| maskI)).withPC (s.wordAt vectorIrq)) :=
  enterHandler_apply (by decide) (by decide) maskI s

/-- Outside the CWAI wait the entry completes wherever its push does. -/
theorem irqEntry_of_pushEntire {s t : State} (hw : s.wait ≠ .cwai) (h : pushEntire s = .ok ⟨⟩ t) :
    irqEntry s = .ok ⟨⟩ (((t.withCyc 19).withCC (t.cc ||| maskI)).withPC (t.wordAt vectorIrq)) := by
  have entered : irqEntry s = (pushEntire >>= fun _ => (modify fun t => t.withCyc 19) >>= fun _ =>
      enterHandler maskI vectorIrq) s := by
    refine (M.bind_ok (M.get_apply s)).trans ?_
    rw [if_neg hw]
  rw [entered, M.bind_ok h, M.bind_ok (M.modify_apply _ t)]
  exact enterHandler_irq (t.withCyc 19)

/-- From the CWAI wait the frame is on the stack already. -/
theorem irqEntry_of_cwai {s : State} (hw : s.wait = .cwai) :
    irqEntry s = .ok ⟨⟩ ((((s.withWait .none).withCyc 1).withCC (s.cc ||| maskI)).withPC (s.wordAt vectorIrq)) := by
  refine (M.bind_ok (M.get_apply s)).trans ?_
  rw [if_pos hw, M.bind_ok (M.modify_apply _ s)]
  exact enterHandler_irq ((s.withWait .none).withCyc 1)

/-- Settles O40: the entry is the same push and entry as a software interrupt's, before any fetch. -/
theorem interruptEntry : Obligations.InterruptEntry := by
  intro s hf hirq
  refine ⟨?start, fun hw h => ?entry, fun hw t h => ?push, fun hw => ?cwai⟩
  case start =>
    have taken : stepBody (beginStep s) = finish irqEntry (beginStep s) := if_pos hirq
    cases e : finish irqEntry (beginStep s) <;> simp only [step, stepOnce, hf, stepLive, taken, e]
  case entry =>
    obtain ⟨t, pushed, effect⟩ := entryEffect_of_pushEntire (s := beginStep s) flagsAre_setE_maskI vectorIrq h 0
    exact ⟨_, finish_ok (irqEntry_of_pushEntire (s := beginStep s) hw pushed), effect.withCyc 19⟩
  case push => exact ⟨finish_ok (irqEntry_of_pushEntire (s := beginStep s) hw h), sp_of_pushEntire (s := beginStep s) h⟩
  case cwai => exact ⟨s.cc ||| maskI, finish_ok (irqEntry_of_cwai hw), flagsAre_maskI s.cc⟩

end Sys2Proof.Machine

/-!
O58 and O59, what a reset and the loading of an image leave in memory (spec/60_exceptions.md R475,
spec/70_reset_and_hazards.md R500 to R502): both clear a region, and a load then lists the image's bytes in it.
-/
namespace Sys2Proof.Machine

/-! ## Cleared and listed regions -/

/-- A cleared region is unlisted, every other byte is kept. -/
theorem Memory.get_clear (m : Memory) (base size a : Nat) :
    (m.clear base size).get a = if base ≤ a ∧ a < base + size then Memory.unlisted else m.get a := by
  induction m with
  | nil => exact (ite_self _).symm
  | cons c m ih =>
    obtain ⟨k, v⟩ := c
    rw [Memory.get_cons]
    by_cases hk : base ≤ k ∧ k < base + size
    · have dropped : Memory.clear ((k, v) :: m) base size = Memory.clear m base size := by
        simp [Memory.clear, hk]
      rw [dropped, ih]
      split_ifs with inside here
      · rfl
      · exact absurd (here ▸ hk) inside
      · rfl
    · have kept : Memory.clear ((k, v) :: m) base size = (k, v) :: Memory.clear m base size :=
        List.filter_cons_of_pos (by simpa only [Bool.not_eq_true', Bool.and_eq_false_iff, decide_eq_false_iff_not,
          ← not_and_or] using hk)
      rw [kept, Memory.get_cons, ih]
      split_ifs with here inside
      · exact absurd (here ▸ inside) hk
      · rfl
      · rfl
      · rfl

/-- An image's bytes stand from its base up, every other byte is kept. -/
theorem Memory.get_putAll (img : List Byte) {m : Memory} (hm : m.wf = true) (base a : Nat) :
    (m.putAll base img).get a =
      if base ≤ a ∧ a < base + img.length then img.getD (a - base) Memory.unlisted else m.get a := by
  induction img generalizing m base with
  | nil => exact (if_neg (by rw [List.length_nil]; omega)).symm
  | cons v img ih =>
    rw [Memory.putAll, ih (Memory.wf_put m hm base v), List.length_cons]
    by_cases later : base + 1 ≤ a ∧ a < base + 1 + img.length
    · obtain ⟨n, rfl⟩ : ∃ n, a = base + (n + 1) := ⟨a - base - 1, by omega⟩
      rw [if_pos later, if_pos (by omega), Nat.add_sub_cancel_left, List.getD_cons_succ]
      congr 1
      omega
    · rw [if_neg later]
      by_cases here : a = base
      · subst here
        rw [Memory.get_put_same m hm, if_pos (by omega), Nat.sub_self, List.getD_cons_zero]
      · rw [Memory.get_put_other m base a v here, if_neg (by omega)]

/-- A replaced region reads as its image and as unlisted past the image's end. -/
theorem get_replaceImage {m : Memory} (hm : m.wf = true) {size : Nat} {img : List Byte} (hl : img.length ≤ size)
    (base a : Nat) : (replaceImage m base size img).get a =
      if base ≤ a ∧ a < base + size then img.getD (a - base) Memory.unlisted else m.get a := by
  rw [replaceImage, Memory.get_putAll img (Memory.wf_clear m hm base size), Memory.get_clear]
  by_cases listed : base ≤ a ∧ a < base + img.length
  · rw [if_pos listed, if_pos (by omega)]
  · rw [if_neg listed]
    split_ifs with inside
    · rw [List.getD_eq_default _ _ (by omega)]
    · rfl

/-! ## What memory reads as after it -/

theorem region_vectrex_eq_cartridge_iff (a : Word) : region .vectrex a = .cartridge ↔ a.toNat < 0x8000 := by
  simp only [region]
  split_ifs <;> simp <;> omega

theorem region_vectrex_eq_bios_iff (a : Word) : region .vectrex a = .bios ↔ 0xE000 ≤ a.toNat := by
  simp only [region]
  split_ifs <;> simp <;> omega

/-- Under the Vectrex map a byte has the cell of its own address, but for RAM, whose cells lie in RAM. -/
theorem cellKey_vectrex_cases (a : Word) : cellKey .vectrex a = a.toNat ∨
    (0xC800 ≤ a.toNat ∧ a.toNat < 0xD000) ∧ 0xC800 ≤ cellKey .vectrex a ∧ cellKey .vectrex a < 0xD000 := by
  by_cases h : region .vectrex a = .ram
  · refine .inr ⟨(region_vectrex_eq_ram_iff a).mp h, ?_⟩
    rw [cellKey_of_ram h]
    omega
  · exact .inl (cellKey_of_ne_ram h)

theorem cellKey_vectrex_ram_iff (a : Word) :
    0xC800 ≤ cellKey .vectrex a ∧ cellKey .vectrex a < 0xC800 + 0x800 ↔ region .vectrex a = .ram := by
  rw [region_vectrex_eq_ram_iff]
  have cell := cellKey_vectrex_cases a
  omega

/-- Outside the VIA's page and the unmapped addresses a byte of memory reads as its cell. -/
theorem peek_of_region {s : State} {a : Word} (hv : region s.cfg.bus a ≠ .via) (hu : region s.cfg.bus a ≠ .unmapped) :
    s.peek a = some (s.mem.get (cellKey s.cfg.bus a)) := by
  unfold State.peek
  split
  · contradiction
  · contradiction
  · rfl

/-- A byte reads the same where its cell does. -/
theorem peek_eq_of_cell {s t : State} {a : Word} (hc : t.cfg = s.cfg)
    (hm : t.mem.get (cellKey s.cfg.bus a) = s.mem.get (cellKey s.cfg.bus a)) : t.peek a = s.peek a := by
  simp only [State.peek, hc, hm]

/-! ## Reset -/

/-- The bytes of the BIOS's addresses are listed in memory, on the flat bus too. -/
theorem byteAt_of_bios (s : State) {a : Word} (ha : 0xE000 ≤ a.toNat) :
    s.byteAt a = s.mem.get (cellKey s.cfg.bus a) := by
  have bios : region s.cfg.bus a = .bios ∨ region s.cfg.bus a = .flat := by
    cases s.cfg.bus with
    | vectrex => exact .inl ((region_vectrex_eq_bios_iff a).mpr ha)
    | flatTest => exact .inr rfl
  rw [State.byteAt, peek_of_region, Option.getD_some]
  all_goals obtain h | h := bios <;> rw [h] <;> exact nofun

theorem resetVector_eq (s : State) : resetVector s = s.wordAt vectorReset := by
  rw [resetVector, State.wordAt, byteAt_of_bios s (by decide), byteAt_of_bios s (by decide)]

/-- What a reset leaves in memory under the Vectrex map. -/
theorem mem_resetTo {s : State} (hb : s.cfg.bus = .vectrex) (pc : Word) :
    (resetTo pc s).mem = s.mem.clear 0xC800 0x800 := by
  simp only [resetTo, resetMem, hb]

theorem joinBytes_zero : joinBytes 0 0 = 0 := by decide

/-- Settles O58: the registers are the record's own fields, memory has RAM cleared. -/
theorem resetState : Obligations.ResetState := by
  intro s pc a
  refine ⟨rfl, rfl, joinBytes_zero, rfl, rfl, rfl, rfl, rfl, rfl, rfl, rfl, rfl, rfl, rfl, rfl, rfl, fun hb ha => ?ram,
    fun hb ha => ?rest, resetVector_eq s⟩
  case ram =>
    have bus : (resetTo pc s).cfg.bus = .vectrex := hb
    rw [peek_of_region (by rw [bus, ha]; exact nofun) (by rw [bus, ha]; exact nofun), mem_resetTo hb, bus, Memory.get_clear,
      if_pos ((cellKey_vectrex_ram_iff a).mpr ha)]
    rfl
  case rest =>
    refine peek_eq_of_cell rfl ?_
    rw [mem_resetTo hb, hb, Memory.get_clear, if_neg (mt (cellKey_vectrex_ram_iff a).mp ha)]

/-! ## Images -/

/-- A load of a file that fits. -/
theorem loadImage_some {base size : Nat} {img : List Byte} (s : State) (h : img.length ≤ size) :
    loadImage base size (some img) s = (true, s.withMem (replaceImage s.mem base size img)) :=
  if_pos h

/-- A load of a file too long. -/
theorem loadImage_too_long {base size : Nat} {img : List Byte} (s : State) (h : size < img.length) :
    loadImage base size (some img) s = (false, s) :=
  if_neg (by omega)

theorem wf_replaceImage {m : Memory} (hm : m.wf = true) (base size : Nat) (img : List Byte) :
    (replaceImage m base size img).wf = true :=
  Memory.wf_putAll img _ base (Memory.wf_clear m hm base size)

section Image

variable {s : State} {img : List Byte} {base size : Nat} {a : Word} (hm : s.mem.wf = true)
  (hb : s.cfg.bus = .vectrex) (hl : img.length ≤ size)
include hm hb hl

/-- In a region of read-only memory the image's bytes read. -/
theorem peek_replaceImage_inside (hr : region .vectrex a = .bios ∨ region .vectrex a = .cartridge)
    (ha : base ≤ a.toNat ∧ a.toNat < base + size) :
    (s.withMem (replaceImage s.mem base size img)).peek a = some (img.getD (a.toNat - base) 0) := by
  have notRam : region .vectrex a ≠ .ram := by obtain h | h := hr <;> rw [h] <;> exact nofun
  rw [peek_of_region]
  · rw [State.withMem_mem, State.withMem_cfg, hb, cellKey_of_ne_ram notRam, get_replaceImage hm hl, if_pos ha]
    rfl
  all_goals rw [State.withMem_cfg, hb]; obtain h | h := hr <;> rw [h] <;> exact nofun

/-- A byte whose cell lies outside the region reads as before. -/
theorem peek_replaceImage_outside (ha : ¬(base ≤ cellKey .vectrex a ∧ cellKey .vectrex a < base + size)) :
    (s.withMem (replaceImage s.mem base size img)).peek a = s.peek a := by
  refine peek_eq_of_cell rfl ?_
  rw [State.withMem_mem, hb, get_replaceImage hm hl, if_neg ha]

end Image

/-- Settles O59: neither region holds a cell of RAM, so every byte outside it keeps its cell. -/
theorem imageLoading : Obligations.ImageLoading := by
  intro s img a hm hb
  have top := a.isLt
  have cell := cellKey_vectrex_cases a
  refine ⟨rfl, rfl, loadImage_too_long s, loadImage_too_long s, fun hl => ?bios, fun hl => ?cart⟩
  case bios =>
    refine ⟨_, loadImage_some s hl, wf_replaceImage hm _ _ img, fun ha => ?_, fun ha => ?_⟩
    · exact peek_replaceImage_inside hm hb hl (.inl ((region_vectrex_eq_bios_iff a).mpr ha)) (by omega)
    · exact peek_replaceImage_outside hm hb hl (by omega)
  case cart =>
    refine ⟨_, loadImage_some s hl, wf_replaceImage hm _ _ img, fun ha => ?_, fun ha => ?_⟩
    · exact peek_replaceImage_inside hm hb hl (.inr ((region_vectrex_eq_cartridge_iff a).mpr ha)) (by omega)
    · exact peek_replaceImage_outside hm hb hl (by omega)

end Sys2Proof.Machine

/-!
O60, the frame loop (spec/60_exceptions.md R471, R472, R493). A frame that the host does not quit stops by itself:
its loop is settled once the budget is spent or a fault is recorded, and every step of a positive table brings it
nearer to that.
-/
namespace Sys2Proof.Machine

/-- The frame loop does nothing more. -/
def Settled (s : State) : Prop := s.budget ≤ 0 ∨ s.fault ≠ none

theorem frameLoop_of_settled {s : State} (h : Settled s) (n : Nat) : frameLoop n none s = s := by
  cases n with
  | zero => rfl
  | succ n =>
    have stops : ¬(0 < s.budget ∧ s.fault = none) := fun ⟨hb, hf⟩ => h.elim (not_le_of_gt hb) fun g => g hf
    simp only [frameLoop, quitNow, Bool.and_eq_true, decide_eq_true_eq]
    exact if_neg fun ⟨⟨hb, _⟩, hf⟩ => stops ⟨hb, hf⟩

/-- A loop that is not settled takes a step: it goes on from the next state, or ends with the fault recorded. -/
theorem frameLoop_succ {s : State} (h : ¬Settled s) :
    (∃ t, step s = .next t ∧ ∀ n, frameLoop (n + 1) none s = frameLoop n none t) ∨
    ∃ r t, step s = .fault (.fatal r t) ∧ t.fault = some r ∧ ∀ n, frameLoop (n + 1) none s = t := by
  obtain ⟨hb, hf⟩ : 0 < s.budget ∧ s.fault = none := by simpa [Settled] using h
  have runs : ∀ n, frameLoop (n + 1) none s = match step s with
      | .next t => frameLoop n none t
      | .fault (.fatal _ t) => t
      | .refused _ => s := by
    intro n
    simp only [frameLoop, quitNow, hb, hf]
    rfl
  have ended := ends_step_constants hf
  cases e : step s with
  | next t => exact .inl ⟨t, rfl, fun n => by rw [runs n, e]⟩
  | fault r =>
    obtain ⟨r, t⟩ := r
    obtain ⟨_, held, -⟩ := faultRecordNamesInstruction s t r hf e
    exact .inr ⟨r, t, rfl, held, fun n => by rw [runs n, e]⟩
  | refused r => rw [e] at ended; exact ended.elim

/-- Fuel may be spent in two parts. -/
theorem frameLoop_add (n k : Nat) (s : State) : frameLoop (n + k) none s = frameLoop k none (frameLoop n none s) := by
  induction n generalizing s with
  | zero => rw [Nat.zero_add]; rfl
  | succ n ih =>
    by_cases h : Settled s
    · rw [frameLoop_of_settled h, frameLoop_of_settled h, frameLoop_of_settled h]
    · rw [Nat.add_right_comm]
      obtain ⟨t, -, next⟩ | ⟨r, t, -, held, stops⟩ := frameLoop_succ h
      · rw [next, next, ih]
      · rw [stops, stops, frameLoop_of_fault held]

/-- The loop leaves the button mask, whatever its fuel (R474). -/
theorem buttons_frameLoop (n : Nat) (s : State) : (frameLoop n none s).buttons = s.buttons := by
  induction n generalizing s with
  | zero => rfl
  | succ n ih =>
    by_cases h : Settled s
    · rw [frameLoop_of_settled h]
    · obtain ⟨-, hf⟩ : 0 < s.budget ∧ s.fault = none := by simpa [Settled] using h
      have kept := ends_step_constants hf
      obtain ⟨t, e, next⟩ | ⟨r, t, e, -, stops⟩ := frameLoop_succ h
      · obtain ⟨-, -, buttons⟩ := kept.next e
        rw [next, ih]
        exact buttons
      · obtain ⟨-, -, -, -, buttons⟩ := faultRecordNamesInstruction s t r hf e
        rw [stops, buttons]

/-- With fuel for its whole budget the loop settles (R511). -/
theorem settled_frameLoop (n : Nat) {s : State} (hc : s.cfg.cyclesPositive = true) (hn : s.budget ≤ (n : Rat)) :
    Settled (frameLoop n none s) := by
  induction n generalizing s with
  | zero => exact .inl (by simpa [frameLoop] using hn)
  | succ n ih =>
    by_cases h : Settled s
    · rwa [frameLoop_of_settled h]
    · obtain ⟨t, e, next⟩ | ⟨r, t, -, held, stops⟩ := frameLoop_succ h
      · have hf := fault_eq_none_of_step e
        obtain ⟨-, cfg, -⟩ := (ends_step_constants hf).next e
        obtain ⟨positive, spent⟩ := stepSpendsCycles s t e
        have one : (1 : Rat) ≤ (t.cyc : Rat) := by exact_mod_cast positive hc
        rw [next]
        refine ih (cfg ▸ hc) ?_
        push_cast at hn
        linarith
      · rw [stops]
        exact .inr (by rw [held]; exact nofun)

/-- Settles O60: the fuel of a frame is its budget rounded up. -/
theorem frameSpendsItsBudget : Obligations.FrameSpendsItsBudget := by
  intro s btn dt
  have enough : (beginFrame btn dt s).budget ≤ ((beginFrame btn dt s).budget.ceil.toNat : Rat) :=
    Rat.le_ceil.trans (by exact_mod_cast Int.self_le_toNat _)
  have settles (hc : s.cfg.cyclesPositive = true) :=
    settled_frameLoop (s := beginFrame btn dt s) _ hc enough
  refine ⟨fun hc hf => ?budget, buttons_frameLoop _ (beginFrame btn dt s), rfl, rfl, rfl, _, _, rfl, fun hc more => ?fuel,
    rfl, rfl, rfl⟩
  case budget => exact (settles hc).resolve_right fun h => h hf
  case fuel => rw [frameLoop_add, frameLoop_of_settled (settles hc)]

end Sys2Proof.Machine
